-- ==== Sys2Proof/Word.lean ====
section
/-! DEFINITION. The word types: a command byte and the 32-bit datapath word (R9, R80). -/

namespace Sys2Proof

/-- A command byte `CMD[7:0]` (R80). -/
abbrev Byte := BitVec 8

/-- A value on the 32-bit datapath (R9): an `s32` or a `u32`, the same 32 bits read in two ways (R11, R12). -/
abbrev Word := BitVec 32

end Sys2Proof
end

