-- ==== Sys2Proof/Syntax.lean ====
section
/-! DEFINITION. The commands of `bme280_comp`: one constructor per row of spec/opcode_table.json (R83). -/

namespace Sys2Proof

/-- The seven commands (R83). No command has an immediate, a register field or an address (R82): LOAD_CAL and LOAD_SAMPLE
take their operands from the input ports beside CMD (R62), which are in State. -/
inductive Instr where
  /-- NOP, 0x00 (R100). -/
  | nop
  /-- LOAD_CAL, 0x01 (R102). -/
  | loadCal
  /-- LOAD_SAMPLE, 0x02 (R105). -/
  | loadSample
  /-- COMP_T, 0x03 (R125). -/
  | compT
  /-- COMP_P, 0x04 (R150). -/
  | compP
  /-- COMP_H, 0x05 (R180). -/
  | compH
  /-- COMP_ALL, 0x06 (R190). -/
  | compAll
  deriving DecidableEq, Repr

end Sys2Proof
end

