-- ==== Sys2Proof/Decode.lean ====
section
/-! DEFINITION. The command decoder, total over all 256 bytes (R81), and the encoder, both from R80 and R83. -/

namespace Sys2Proof

/-- Why a byte is illegal (R81, R83). Executing it takes the fault ILLEGAL_CMD (R84). -/
inductive DecodeError where
  /-- RSV is 0 and OP is 0b111: the byte 0x07. -/
  | reservedOp
  /-- RSV is not 0: the bytes 0x08 .. 0xFF. -/
  | reservedBits
  deriving DecidableEq, Repr

/-- OP = CMD[2:0] (R80). -/
def opField (b : Byte) : BitVec 3 := b.extractLsb' 0 3

/-- RSV = CMD[7:3] (R80). -/
def rsvField (b : Byte) : BitVec 5 := b.extractLsb' 3 5

/-- The opcode map's OP column (R83). -/
def decodeOp (op : BitVec 3) : Except DecodeError Instr :=
  match op.toNat with
  | 0 => .ok .nop
  | 1 => .ok .loadCal
  | 2 => .ok .loadSample
  | 3 => .ok .compT
  | 4 => .ok .compP
  | 5 => .ok .compH
  | 6 => .ok .compAll
  | _ => .error .reservedOp

/-- A byte is legal iff RSV = 0 and OP is not 0b111; a legal byte decodes to the command R83 names (R81). -/
def decode (b : Byte) : Except DecodeError Instr :=
  if rsvField b = 0 then decodeOp (opField b) else .error .reservedBits

/-- The CMD byte column of R83. -/
def encode : Instr → Byte
  | .nop => 0x00
  | .loadCal => 0x01
  | .loadSample => 0x02
  | .compT => 0x03
  | .compP => 0x04
  | .compH => 0x05
  | .compAll => 0x06

/-- The CMD byte of an instruction whose bits are `w`, `nbits` of them counted: every command has 8 bits (R80). -/
def tableByte (nbits w : Nat) : Byte := BitVec.ofNat 8 (w % 2 ^ nbits)

/-- What the decoder reads from a row's word, numbered as spec/opcode_table.json numbers it. -/
def decodeTableWord (nbits w : Nat) : Option Instr :=
  match decode (tableByte nbits w) with
  | .ok i => some i
  | .error _ => none

end Sys2Proof
end

