-- ==== Sys2Proof/Config.lean ====
section
/-! DEFINITION. What the spec leaves open. The block takes no parameter (R10); the one free value is the answer of a host
read of a register that holds no value (R61, 93_implementation_defined.md I7). -/

namespace Sys2Proof

/-- FREE VALUE (log entry 5): what a host read returns when the select names T_FINE, T_OUT, P_OUT or H_OUT while its validity
bit is 0. R61: "A model answers such a read with a free draw (any 32-bit value), and no claim may depend on it". It is
indexed by a counter that every command and every reset advances, so that reads "between the same two commands" agree, and
by the read select. -/
opaque Config.undefinedRead : Nat → BitVec 3 → Word

end Sys2Proof
end

