-- ==== Sys2Proof/Bundles.lean ====
section
/-! DEFINITION. The operand bundles at their exact port widths, and what the host can do to the block (R33, R36, R60, R62). -/

namespace Sys2Proof

/-- The CalibrationSet: the 18 constants of CAL and of the `CAL_IN` bundle, each at the width of R33. Whether an entry is
signed shows in how the datapath extends it (Machine/Operands.lean). -/
structure CalibrationSet where
  dig_T1 : BitVec 16
  dig_T2 : BitVec 16
  dig_T3 : BitVec 16
  dig_P1 : BitVec 16
  dig_P2 : BitVec 16
  dig_P3 : BitVec 16
  dig_P4 : BitVec 16
  dig_P5 : BitVec 16
  dig_P6 : BitVec 16
  dig_P7 : BitVec 16
  dig_P8 : BitVec 16
  dig_P9 : BitVec 16
  dig_H1 : BitVec 8
  dig_H2 : BitVec 16
  dig_H3 : BitVec 8
  dig_H4 : BitVec 16
  dig_H5 : BitVec 16
  dig_H6 : BitVec 8
  deriving DecidableEq, Repr

/-- The RawSample: the three ADC counts of SAMPLE and of the `SAMPLE_IN` bundle (R36, R62). -/
structure RawSample where
  adc_P : BitVec 20
  adc_T : BitVec 20
  adc_H : BitVec 16
  deriving DecidableEq, Repr

/-- The operand ports beside CMD (R62), "sampled in the same step as the command byte". -/
structure Ports where
  calIn : CalibrationSet
  sampleIn : RawSample
  deriving DecidableEq, Repr

/-- One interaction of the host with the block: "This is the complete list" (R60). -/
inductive HostAction where
  /-- The reset event (R230). -/
  | reset
  /-- A write of one CMD byte, with the values the operand ports carry in that step (R41, R62). A command other than
  LOAD_CAL and LOAD_SAMPLE ignores them. -/
  | command (cmd : Byte) (ports : Ports)
  /-- A read through the 3-bit read select (R61). -/
  | read (select : BitVec 3)
  deriving DecidableEq, Repr

end Sys2Proof
end

