-- ==== Sys2Proof/Machine/State.lean ====
section
/-! DEFINITION. The machine's state as plain data (10_state.md), its fault codes, and the state after reset (R44). -/

namespace Sys2Proof.Machine

/-- The fault codes of STATUS.FCODE (R200). A fault of the block is part of the state: it is recorded and the block halts
(R203, R204); it never stops the model. -/
inductive FaultCode where
  /-- 1: the CMD byte is reserved. -/
  | illegalCmd
  /-- 2: a compute command while CAL_VALID = 0. -/
  | noCal
  /-- 3: a compute command while SAMPLE_VALID = 0. -/
  | noSample
  /-- 4: COMP_P or COMP_H while TFINE_VALID = 0. -/
  | staleTfine
  /-- 5: LOAD_CAL while CAL_VALID = 1. -/
  | calReload
  deriving DecidableEq, Repr

/-- Reasons the MODEL stops with a fault: none. No rule of the spec stops the block: its faults are states (R203 to R205),
and its arithmetic is total (R201). Log entry 8. -/
inductive Fault where
  deriving DecidableEq, Repr

/-- Reasons the model has no meaning for an instruction. -/
inductive Refusal where
  /-- Raised by `exec` for an instruction not modelled yet, under its mnemonic (safe). No arm raises it: all seven commands
  are modelled. -/
  | notModelled (mnemonic : String)
  deriving DecidableEq, Repr

/-- The state of the block and of its host interface.

A register with its validity bit is ONE field: `none` is "validity bit 0, the register holds no value", `some v` is
"validity bit 1, value v" (R42; log entry 1). STATUS as a 16-bit word is `State.status` (Machine/Flags.lean). -/
structure State where
  /-- CAL, the 18 constants (R32, R33), and STATUS.CAL_VALID. -/
  cal : Option CalibrationSet
  /-- SAMPLE: ADC_P, ADC_T, ADC_H (R36), and STATUS.SAMPLE_VALID. -/
  sample : Option RawSample
  /-- T_FINE, s32 (R37), and STATUS.TFINE_VALID (R38). -/
  tFine : Option Word
  /-- T_OUT, s32 (R39), and STATUS.T_VALID. -/
  tOut : Option Word
  /-- P_OUT, u32 (R39), and STATUS.P_VALID. -/
  pOut : Option Word
  /-- H_OUT, u32 (R39), and STATUS.H_VALID. -/
  hOut : Option Word
  /-- STATUS.FAULT and STATUS.FCODE: the first fault taken since reset (R40, R204). -/
  fault : Option FaultCode
  /-- What the operand ports carry (R62). -/
  ports : Ports
  /-- The model's own: the host's interactions still to come, in order (R60, R70; log entries 2 and 3). -/
  pending : List HostAction
  /-- The model's own: the values host reads have returned, newest first (R60, R61; log entry 6). -/
  received : List Word
  /-- The model's own: how many commands and resets have been taken, the index of the free value (R61; log entry 5). -/
  drawIndex : Nat
  deriving DecidableEq, Repr

/-- Ports on which nothing is driven: DESIGN CHOICE, every bit 0 (log entry 4). -/
def idlePorts : Ports where
  calIn :=
    { dig_T1 := 0, dig_T2 := 0, dig_T3 := 0
      dig_P1 := 0, dig_P2 := 0, dig_P3 := 0, dig_P4 := 0, dig_P5 := 0, dig_P6 := 0, dig_P7 := 0, dig_P8 := 0, dig_P9 := 0
      dig_H1 := 0, dig_H2 := 0, dig_H3 := 0, dig_H4 := 0, dig_H5 := 0, dig_H6 := 0 }
  sampleIn := { adc_P := 0, adc_T := 0, adc_H := 0 }

/-- The machine right after reset (R44): STATUS = 0x0000 and no data register holds a value. The host has presented nothing
yet. -/
def State.reset : State where
  cal := none
  sample := none
  tFine := none
  tOut := none
  pOut := none
  hOut := none
  fault := none
  ports := idlePorts
  pending := []
  received := []
  drawIndex := 0

end Sys2Proof.Machine
end

