-- ==== Sys2Proof/Machine/Flags.lean ====
section
/-! DEFINITION. STATUS (R40): each field read from the state, and the 16-bit word. The block has no other flag (R43), and
its arithmetic sets none (R15). -/

namespace Sys2Proof.Machine

/-- STATUS[0] CAL_VALID. -/
def State.calValid (s : State) : Bool := s.cal.isSome

/-- STATUS[1] SAMPLE_VALID. -/
def State.sampleValid (s : State) : Bool := s.sample.isSome

/-- STATUS[2] TFINE_VALID: T_FINE was computed from the current SAMPLE (R38). -/
def State.tfineValid (s : State) : Bool := s.tFine.isSome

/-- STATUS[3] T_VALID. -/
def State.tValid (s : State) : Bool := s.tOut.isSome

/-- STATUS[4] P_VALID. -/
def State.pValid (s : State) : Bool := s.pOut.isSome

/-- STATUS[5] H_VALID. -/
def State.hValid (s : State) : Bool := s.hOut.isSome

/-- STATUS[8] FAULT: the block is halted (R204). -/
def State.halted (s : State) : Bool := s.fault.isSome

/-- The number of a fault code (R200). The values 6 and 7 are never written. -/
def faultNumber : FaultCode → BitVec 3
  | .illegalCmd => 1
  | .noCal => 2
  | .noSample => 3
  | .staleTfine => 4
  | .calReload => 5

/-- STATUS[11:9] FCODE: "code of the first fault taken; 0 when FAULT = 0". -/
def State.fcode (s : State) : BitVec 3 :=
  match s.fault with
  | none => 0
  | some f => faultNumber f

/-- STATUS, bit 15 first, in the layout of R40: reserved [15:12], FCODE, FAULT, reserved [7:6], H_VALID, P_VALID, T_VALID,
TFINE_VALID, SAMPLE_VALID, CAL_VALID. The reserved bits are hardwired 0. -/
def State.status (s : State) : BitVec 16 :=
  0#4 ++ s.fcode ++ BitVec.ofBool s.halted ++ 0#2 ++
    BitVec.ofBool s.hValid ++ BitVec.ofBool s.pValid ++ BitVec.ofBool s.tValid ++
    BitVec.ofBool s.tfineValid ++ BitVec.ofBool s.sampleValid ++ BitVec.ofBool s.calValid

end Sys2Proof.Machine
end

