-- ==== Sys2Proof/Machine/Ops.lean ====
section
/-! DEFINITION. The named operations over the registers: the register writes, taking a fault (R203) and the only way out of
it, reset (R206, R230), the checks that open the compute commands (R201), and the host's read port (R61). -/

namespace Sys2Proof.Machine

/-- What one step of this machine answers. -/
abbrev Result := Host.Outcome State Fault Refusal

/-! ### Register writes -/

/-- Write all 18 entries of CAL and set CAL_VALID (R66, R102). -/
def State.writeCal (s : State) (c : CalibrationSet) : State := { s with cal := some c }

/-- Write the three registers of SAMPLE and set SAMPLE_VALID; T_FINE and the outputs become stale, which clears their
validity bits (R105, R42). -/
def State.writeSample (s : State) (r : RawSample) : State :=
  { s with sample := some r, tFine := none, tOut := none, pOut := none, hOut := none }

/-- Write T_FINE and set TFINE_VALID (R125). -/
def State.writeTFine (s : State) (v : Word) : State := { s with tFine := some v }

/-- Write T_OUT and set T_VALID (R125). -/
def State.writeTOut (s : State) (v : Word) : State := { s with tOut := some v }

/-- Write P_OUT and set P_VALID (R150). -/
def State.writePOut (s : State) (v : Word) : State := { s with pOut := some v }

/-- Write H_OUT and set H_VALID (R180). -/
def State.writeHOut (s : State) (v : Word) : State := { s with hOut := some v }

/-! ### Taking a fault, and the way out of it -/

/-- `raise Fault(code)` (R203): FAULT <- 1, FCODE <- code, and nothing else. Every command raises it on the state before
its first write, so the writes it would have made are discarded. -/
def State.raiseFault (s : State) (code : FaultCode) : State := { s with fault := some code }

/-- A command that ends in a fault: a next state, the halted block. -/
def takeFault (code : FaultCode) (s : State) : Result := .next (s.raiseFault code)

/-- The reset event (R230): the state of R44. There is no other return from a fault (R206). -/
def State.resetBlock (s : State) : State :=
  { s with cal := none, sample := none, tFine := none, tOut := none, pOut := none, hOut := none, fault := none }

/-! ### The checks that open a compute command, in the order of R201 -/

/-- NO_CAL, then NO_SAMPLE; then `k` on the values of CAL and SAMPLE. -/
def withCalAndSample (s : State) (k : CalibrationSet → RawSample → Result) : Result :=
  match s.cal, s.sample with
  | none, _ => takeFault .noCal s
  | some _, none => takeFault .noSample s
  | some c, some r => k c r

/-- NO_CAL, then NO_SAMPLE, then STALE_TFINE; then `k` on the values of CAL, SAMPLE and T_FINE. -/
def withFreshTFine (s : State) (k : CalibrationSet → RawSample → Word → Result) : Result :=
  withCalAndSample s fun c r =>
    match s.tFine with
    | none => takeFault .staleTfine s
    | some tf => k c r tf

/-! ### The host's side -/

/-- The host's interactions still to come are `rest`: the first has been taken (R70). -/
def State.withPending (s : State) (rest : List HostAction) : State := { s with pending := rest }

/-- The block takes a command byte: the ports carry the values presented with it (R62), and the index of the free value
moves on (R61: equal draws only "between the same two commands"). -/
def State.acceptCommand (s : State) (ports : Ports) : State :=
  { s with ports := ports, drawIndex := s.drawIndex + 1 }

/-- The reset event as the host presents it: the block's registers as R44 says, and the index of the free value moves on. -/
def State.acceptReset (s : State) : State := { s.resetBlock with drawIndex := s.drawIndex + 1 }

/-- The 32 bits of a register, or, where it holds no value, the free value (R61). -/
def State.bitsOrFree (s : State) (select : BitVec 3) (reg : Option Word) : Word :=
  reg.getD (Config.undefinedRead s.drawIndex select)

/-- The read port's table (R61). -/
def State.readPort (s : State) (select : BitVec 3) : Word :=
  if select = 0b000 then s.status.setWidth 32
  else if select = 0b001 then s.bitsOrFree select s.tFine
  else if select = 0b010 then s.bitsOrFree select s.tOut
  else if select = 0b011 then s.bitsOrFree select s.pOut
  else if select = 0b100 then s.bitsOrFree select s.hOut
  else 0x00000000

/-- A host read: the value goes back to the host, and nothing in the block changes (R61, R66). -/
def State.answerRead (s : State) (select : BitVec 3) : State :=
  { s with received := s.readPort select :: s.received }

end Sys2Proof.Machine
end

