-- ==== Sys2Proof/Machine/Load.lean ====
section
/-! DEFINITION. The loading commands: NOP, LOAD_CAL, LOAD_SAMPLE (40_load.md). -/

namespace Sys2Proof.Machine

/-- NOP (R100): no effect. -/
def execNop (s : State) : Result := .next s

/-- LOAD_CAL (R102): CAL_RELOAD when CAL_VALID = 1; else every field of CAL_IN enters its register unchanged. -/
def execLoadCal (s : State) : Result :=
  if s.calValid then takeFault .calReload s else .next (s.writeCal s.ports.calIn)

/-- LOAD_SAMPLE (R105): SAMPLE <- SAMPLE_IN, and everything derived from the previous sample is stale. No precondition. -/
def execLoadSample (s : State) : Result := .next (s.writeSample s.ports.sampleIn)

end Sys2Proof.Machine
end

