-- ==== Sys2Proof/Machine/Operands.lean ====
section
/-! DEFINITION. The datapath's primitives (R12, R15 to R21) and how each register enters the datapath (R33, R36).

Signed and unsigned `+`, `-`, `*` are those of the 32-bit word: the exact result modulo 2^32 (R15, R16). -/

namespace Sys2Proof.Machine

/-- `zext_32` (R12). -/
def zext32 {n : Nat} (v : BitVec n) : Word := v.setWidth 32

/-- `sext_32` (R12). -/
def sext32 {n : Nat} (v : BitVec n) : Word := v.signExtend 32

/-- `as_u32` (R12): a reinterpretation, no bit changes (D5). -/
def asU32 (s : Word) : Word := s

/-- `as_s32` (R12): a reinterpretation, no bit changes (D5). -/
def asS32 (u : Word) : Word := u

/-- `a >> k` on an `s32`: floor(a / 2^k) (R17). -/
def asr (a : Word) (k : Nat) : Word := a.sshiftRight k

/-- `u >>u k` on a `u32`: floor(u / 2^k), zeros shifted in (R18). -/
def lsr (u : Word) (k : Nat) : Word := u >>> k

/-- `a << k`: the shift of the 32-bit pattern, a * 2^k wrapped (R19, D4). -/
def shl (a : Word) (k : Nat) : Word := a <<< k

/-- `udiv32(n, d)` for `d != 0`: floor(n / d) (R20). The spec gives no value at d = 0, and no rule divides by 0 (R143;
log entry 10). -/
def udiv32 (n d : Word) : Word := n / d

/-- `a < b` on `s32` values (R21). -/
def ltS32 (a b : Word) : Bool := a.slt b

/-- `a < b` on `u32` values (R21). -/
def ltU32 (a b : Word) : Bool := a.ult b

/-! ### CAL in the datapath: the last column of R33 -/

def digT1 (c : CalibrationSet) : Word := zext32 c.dig_T1
def digT2 (c : CalibrationSet) : Word := sext32 c.dig_T2
def digT3 (c : CalibrationSet) : Word := sext32 c.dig_T3
def digP1 (c : CalibrationSet) : Word := zext32 c.dig_P1
def digP2 (c : CalibrationSet) : Word := sext32 c.dig_P2
def digP3 (c : CalibrationSet) : Word := sext32 c.dig_P3
def digP4 (c : CalibrationSet) : Word := sext32 c.dig_P4
def digP5 (c : CalibrationSet) : Word := sext32 c.dig_P5
def digP6 (c : CalibrationSet) : Word := sext32 c.dig_P6
def digP7 (c : CalibrationSet) : Word := sext32 c.dig_P7
def digP8 (c : CalibrationSet) : Word := sext32 c.dig_P8
def digP9 (c : CalibrationSet) : Word := sext32 c.dig_P9
def digH1 (c : CalibrationSet) : Word := zext32 c.dig_H1
def digH2 (c : CalibrationSet) : Word := sext32 c.dig_H2
def digH3 (c : CalibrationSet) : Word := zext32 c.dig_H3
def digH4 (c : CalibrationSet) : Word := sext32 c.dig_H4
def digH5 (c : CalibrationSet) : Word := sext32 c.dig_H5
def digH6 (c : CalibrationSet) : Word := sext32 c.dig_H6

/-! ### SAMPLE in the datapath: always `zext_32` (R36) -/

def adcP (r : RawSample) : Word := zext32 r.adc_P
def adcT (r : RawSample) : Word := zext32 r.adc_T
def adcH (r : RawSample) : Word := zext32 r.adc_H

end Sys2Proof.Machine
end

