-- ==== Sys2Proof/Machine/Humidity.lean ====
section
/-! DEFINITION. humidity_compensator and COMP_H (43_humidity.md). -/

namespace Sys2Proof.Machine

/-- R171 up to the clamp: the value of the full nested expression. The parts `a`, `b1`, `b2`, `b` are named as the rule
names them. -/
def humidityRaw (adcH tFine digH1 digH2 digH3 digH4 digH5 digH6 : Word) : Word :=
  let v := tFine - 76800
  let a := asr (((shl adcH 14 - shl digH4 20) - digH5 * v) + 16384) 15
  let b1 := asr (v * digH6) 10
  let b2 := asr (v * digH3) 11 + 32768
  let b := asr ((asr (b1 * b2) 10 + 2097152) * digH2 + 8192) 14
  let v := a * b
  v - asr (asr (asr v 15 * asr v 15) 7 * digH1) 4

/-- The clamp to [0, 419430400] on an `s32` (R172). -/
def humidityClamp (v : Word) : Word :=
  let v := if ltS32 v 0 then 0 else v
  if ltS32 419430400 v then 419430400 else v

/-- `CompH` (R171): the clamp after the full expression and before the final shift (R172, R173). -/
def compH (adcH tFine digH1 digH2 digH3 digH4 digH5 digH6 : Word) : Word :=
  asU32 (asr (humidityClamp (humidityRaw adcH tFine digH1 digH2 digH3 digH4 digH5 digH6)) 12)

/-- `CompH` on the registers, extended as R33 and R36 say (R180). -/
def compHOf (c : CalibrationSet) (r : RawSample) (tf : Word) : Word :=
  compH (adcH r) tf (digH1 c) (digH2 c) (digH3 c) (digH4 c) (digH5 c) (digH6 c)

/-- COMP_H (R180). -/
def execCompH (s : State) : Result :=
  withFreshTFine s fun c r tf => .next (s.writeHOut (compHOf c r tf))

end Sys2Proof.Machine
end

