-- ==== Sys2Proof/Machine/Pressure.lean ====
section
/-! DEFINITION. pressure_compensator and COMP_P (42_pressure.md). `compP` is R142, its statements grouped by the value each
group computes. -/

namespace Sys2Proof.Machine

/-- `PDiv(p, d)` for `d != 0` (R141): below 2^31 shift first, at or above it divide first. -/
def pdiv (p d : Word) : Word :=
  if ltU32 p 0x80000000 then udiv32 (shl p 1) d else udiv32 p d * 2

/-- R142, first line: `var1`. -/
def pressureVar1 (tFine : Word) : Word := asr tFine 1 - 64000

/-- R142, second line: `sq`. -/
def pressureSq (tFine : Word) : Word :=
  let var1 := pressureVar1 tFine
  asr var1 2 * asr var1 2

/-- R142, third to fifth lines: `var2` after its three updates. -/
def pressureVar2 (tFine digP4 digP5 digP6 : Word) : Word :=
  let var1 := pressureVar1 tFine
  let var2 := asr (pressureSq tFine) 11 * digP6
  let var2 := var2 + shl (var1 * digP5) 1
  asr var2 2 + shl digP4 16

/-- R142, sixth line: `var1` before its last update. -/
def pressureScale (tFine digP2 digP3 : Word) : Word :=
  let var1 := pressureVar1 tFine
  asr (asr (digP3 * asr (pressureSq tFine) 13) 3 + asr (digP2 * var1) 1) 18

/-- R142, seventh line: `var1` after its last update, the divisor. -/
def pressureDivisor (tFine digP1 digP2 digP3 : Word) : Word :=
  asr ((32768 + pressureScale tFine digP2 digP3) * digP1) 15

/-- R142, the first assignment of `p`: the dividend, a `u32`. -/
def pressureDividend (adcP tFine digP4 digP5 digP6 : Word) : Word :=
  (asU32 (1048576 - adcP) - asU32 (asr (pressureVar2 tFine digP4 digP5 digP6) 12)) * 3125

/-- R142, the last four lines: the correction terms after the division. The shifts of `p` are logical and its square is a
`u32` (R145). -/
def pressureCorrected (p digP7 digP8 digP9 : Word) : Word :=
  let var1 := asr (digP9 * asS32 (lsr (lsr p 3 * lsr p 3) 13)) 12
  let var2 := asr (asS32 (lsr p 2) * digP8) 13
  asU32 (asS32 p + asr (var1 + var2 + digP7) 4)

/-- `CompP` (R142), with the zero-divisor guard (R143). -/
def compP (adcP tFine digP1 digP2 digP3 digP4 digP5 digP6 digP7 digP8 digP9 : Word) : Word :=
  let divisor := pressureDivisor tFine digP1 digP2 digP3
  if divisor = 0 then 0
  else pressureCorrected (pdiv (pressureDividend adcP tFine digP4 digP5 digP6) (asU32 divisor)) digP7 digP8 digP9

/-- `CompP` on the registers, extended as R33 and R36 say (R150). -/
def compPOf (c : CalibrationSet) (r : RawSample) (tf : Word) : Word :=
  compP (adcP r) tf (digP1 c) (digP2 c) (digP3 c) (digP4 c) (digP5 c) (digP6 c) (digP7 c) (digP8 c) (digP9 c)

/-- COMP_P (R150). -/
def execCompP (s : State) : Result :=
  withFreshTFine s fun c r tf => .next (s.writePOut (compPOf c r tf))

end Sys2Proof.Machine
end

