-- ==== Sys2Proof/Machine/Temperature.lean ====
section
/-! DEFINITION. temperature_fineterm_gen and COMP_T (41_temperature.md). -/

namespace Sys2Proof.Machine

/-- `FineTemp` (R121), statement by statement. -/
def fineTemp (adcT digT1 digT2 digT3 : Word) : Word :=
  let var1 := asr ((asr adcT 3 - shl digT1 1) * digT2) 11
  let tmp := asr adcT 4 - digT1
  let var2 := asr (asr (tmp * tmp) 12 * digT3) 14
  var1 + var2

/-- `CompT` (R123): `(t_fine * 5 + 128) >> 8`. -/
def compT (tFine : Word) : Word := asr (tFine * 5 + 128) 8

/-- `FineTemp` on the registers, extended as R33 and R36 say (R125). -/
def fineTempOf (c : CalibrationSet) (r : RawSample) : Word := fineTemp (adcT r) (digT1 c) (digT2 c) (digT3 c)

/-- The writes of COMP_T (R125). -/
def State.writeTemperature (s : State) (tf : Word) : State := (s.writeTFine tf).writeTOut (compT tf)

/-- COMP_T (R125). -/
def execCompT (s : State) : Result :=
  withCalAndSample s fun c r => .next (s.writeTemperature (fineTempOf c r))

end Sys2Proof.Machine
end

