-- ==== Sys2Proof/Machine/Sequence.lean ====
section
/-! DEFINITION. COMP_ALL (44_sequence.md): the three units in order on the current sample. -/

namespace Sys2Proof.Machine

/-- COMP_ALL (R190): NO_CAL, then NO_SAMPLE; both later units read the `tf` computed here (R191). -/
def execCompAll (s : State) : Result :=
  withCalAndSample s fun c r =>
    let tf := fineTempOf c r
    .next (((s.writeTemperature tf).writePOut (compPOf c r tf)).writeHOut (compHOf c r tf))

end Sys2Proof.Machine
end

