-- ==== Sys2Proof/Machine/Dispatch.lean ====
section
/-! DEFINITION. The dispatch: one arm per command (R83). A meaning runs inside the frame of R203 (Machine/Frame.lean). -/

namespace Sys2Proof.Machine

def exec (i : Instr) (s : State) : Host.Outcome State Fault Refusal :=
  match i with
  | .nop => Sys2Proof.Machine.execNop s
  | .loadCal => Sys2Proof.Machine.execLoadCal s
  | .loadSample => Sys2Proof.Machine.execLoadSample s
  | .compT => Sys2Proof.Machine.execCompT s
  | .compP => Sys2Proof.Machine.execCompP s
  | .compH => Sys2Proof.Machine.execCompH s
  | .compAll => Sys2Proof.Machine.execCompAll s

end Sys2Proof.Machine
end

