-- ==== Sys2Proof/Machine/Frame.lean ====
section
/-! DEFINITION. The frame every command runs in (R203), and one interaction of the host (R60). -/

namespace Sys2Proof.Machine

/-- `Step(cmd, bundle)` of R203: a halted block ignores the command (R204); a reserved byte faults (R84); else the command
rule runs. The bundle is on `s.ports`. -/
def runCommand (cmd : Byte) (s : State) : Result :=
  if s.halted then .next s
  else
    match decode cmd with
    | .error _ => takeFault .illegalCmd s
    | .ok i => exec i s

/-- One interaction of the host, from the complete list of R60. Reset and reads are taken in any state, a halted one too
(R230, R204). -/
def interact (a : HostAction) (s : State) : Result :=
  match a with
  | .reset => .next s.acceptReset
  | .command cmd ports => runCommand cmd (s.acceptCommand ports)
  | .read select => .next (s.answerRead select)

/-- The host's interactions are taken one at a time, in its order (R70). While it presents none, the block does nothing
(R60, R213). -/
def stepBody (s : State) : Result :=
  match s.pending with
  | [] => .next s
  | a :: rest => interact a (s.withPending rest)

/-- The host writes the CMD byte of a table row next, with the ports as they stand. -/
def pushWord (s : State) (nbits w : Nat) : State :=
  s.withPending (.command (tableByte nbits w) s.ports :: s.pending)

end Sys2Proof.Machine
end

