-- ==== Sys2Proof/Machine/Step.lean ====
section
/-! DEFINITION. One step of the machine, and how an instruction is put where the next step takes it. -/

namespace Sys2Proof.Machine

/-- One step: the host's next interaction (R60, R70, R203). -/
def step (s : State) : Host.Outcome State Fault Refusal := stepBody s

/-- The instruction whose bits are `w` as the host's very next command. The block fetches nothing (R31): the host presents
each command, so this stands for the host writing CMD (log entry 3). -/
def State.withFetchWord (s : State) (nbits w : Nat) : State := pushWord s nbits w

end Sys2Proof.Machine
end

