-- ==== Sys2Proof/Listing.lean ====
section
/-! DEFINITION. The assembler's listing (R85, R86) as syntax: what a host writes down, before any range check. The numbers
are exact integers here, since "A value outside the field's range is an assembly error, not a wrap" (R85). -/

namespace Sys2Proof

/-- The operands of `LOAD_CAL`, as written (R85). -/
structure CalOperands where
  T1 : Int
  T2 : Int
  T3 : Int
  P1 : Int
  P2 : Int
  P3 : Int
  P4 : Int
  P5 : Int
  P6 : Int
  P7 : Int
  P8 : Int
  P9 : Int
  H1 : Int
  H2 : Int
  H3 : Int
  H4 : Int
  H5 : Int
  H6 : Int
  deriving DecidableEq, Repr

/-- The operands of `LOAD_SAMPLE` and `READING`, as written (R85, R86). -/
structure SampleOperands where
  P : Int
  T : Int
  H : Int
  deriving DecidableEq, Repr

/-- The registers `READ` can name (R85). -/
inductive ReadName where
  | status
  | tFine
  | tOut
  | pOut
  | hOut
  deriving DecidableEq, Repr

/-- One statement of a listing: a command, the pseudo-instruction READING, or one of "Two host actions" that "share the
listing syntax but are not commands" (R85, R86). -/
inductive Line where
  | nop
  | loadCal (ops : CalOperands)
  | loadSample (ops : SampleOperands)
  | compT
  | compP
  | compH
  | compAll
  | reading (ops : SampleOperands)
  | reset
  | read (reg : ReadName)
  deriving DecidableEq, Repr

/-- A token of the listing's text. -/
inductive Token where
  | word (cs : List Char)
  | eq
  | comma
  | newline
  deriving DecidableEq, Repr

/-- Why the assembler rejects a listing. Raised by the assembler, outside the block: no state changes (safe). -/
inductive AsmError where
  /-- A character that no token of R85 holds. -/
  | badCharacter
  /-- A mnemonic R85 and R86 do not give. -/
  | unknownMnemonic
  /-- The operands are not those of the mnemonic's form. -/
  | badOperands
  /-- A number that is neither decimal nor `0x` hexadecimal. -/
  | badNumber
  /-- A leading `-` where the field is not signed. -/
  | signNotAllowed
  /-- "A value outside the field's range is an assembly error, not a wrap." -/
  | outOfRange
  deriving DecidableEq, Repr

end Sys2Proof
end

