-- ==== Sys2Proof/WellFormed.lean ====
section
/-! DEFINITION. Well-formedness. A command has no operand (R82), so every `Instr` is well formed; what can be ill formed is a
listing's operand outside its field's range (R85, 93_implementation_defined.md I15). -/

namespace Sys2Proof

/-- `v` is a value of an unsigned field of `n` bits (R11). -/
def fitsUnsigned (n : Nat) (v : Int) : Bool := decide (0 ≤ v) && decide (v < 2 ^ n)

/-- `v` is a value of a signed field of `n + 1` bits (R11): -2^n .. 2^n - 1. -/
def fitsSigned (n : Nat) (v : Int) : Bool := decide (-(2 ^ n) ≤ v) && decide (v < 2 ^ n)

/-- The ranges of R33, field by field. -/
def CalOperands.wf (c : CalOperands) : Bool :=
  fitsUnsigned 16 c.T1 && fitsSigned 15 c.T2 && fitsSigned 15 c.T3 &&
  fitsUnsigned 16 c.P1 && fitsSigned 15 c.P2 && fitsSigned 15 c.P3 && fitsSigned 15 c.P4 && fitsSigned 15 c.P5 &&
  fitsSigned 15 c.P6 && fitsSigned 15 c.P7 && fitsSigned 15 c.P8 && fitsSigned 15 c.P9 &&
  fitsUnsigned 8 c.H1 && fitsSigned 15 c.H2 && fitsUnsigned 8 c.H3 && fitsSigned 15 c.H4 && fitsSigned 15 c.H5 &&
  fitsSigned 7 c.H6

/-- The ranges of R36, field by field. -/
def SampleOperands.wf (r : SampleOperands) : Bool :=
  fitsUnsigned 20 r.P && fitsUnsigned 20 r.T && fitsUnsigned 16 r.H

/-- A line is well formed when each operand is in its field's range. -/
def Line.wf : Line → Bool
  | .loadCal ops => ops.wf
  | .loadSample ops => ops.wf
  | .reading ops => ops.wf
  | .nop => true
  | .compT => true
  | .compP => true
  | .compH => true
  | .compAll => true
  | .reset => true
  | .read _ => true

/-- Every command is well formed: it has no field to check (R82). -/
def Instr.wf : Instr → Bool
  | .nop => true
  | .loadCal => true
  | .loadSample => true
  | .compT => true
  | .compP => true
  | .compH => true
  | .compAll => true

end Sys2Proof
end

