-- ==== Sys2Proof/Machine/Assembler.lean ====
section
/-! DEFINITION. The assembler (R85, R86): a listing's text to lines, and lines to host actions. What R85 leaves open about
the text (spacing, case, continuation lines) is log entry 11. -/

namespace Sys2Proof.Machine

/-! ### Lines to host actions -/

/-- A bundle from operands in range: "Each bundle field enters its register unchanged, at its declared type" (R82). -/
def calOperandsToBundle (c : CalOperands) : CalibrationSet where
  dig_T1 := BitVec.ofInt 16 c.T1
  dig_T2 := BitVec.ofInt 16 c.T2
  dig_T3 := BitVec.ofInt 16 c.T3
  dig_P1 := BitVec.ofInt 16 c.P1
  dig_P2 := BitVec.ofInt 16 c.P2
  dig_P3 := BitVec.ofInt 16 c.P3
  dig_P4 := BitVec.ofInt 16 c.P4
  dig_P5 := BitVec.ofInt 16 c.P5
  dig_P6 := BitVec.ofInt 16 c.P6
  dig_P7 := BitVec.ofInt 16 c.P7
  dig_P8 := BitVec.ofInt 16 c.P8
  dig_P9 := BitVec.ofInt 16 c.P9
  dig_H1 := BitVec.ofInt 8 c.H1
  dig_H2 := BitVec.ofInt 16 c.H2
  dig_H3 := BitVec.ofInt 8 c.H3
  dig_H4 := BitVec.ofInt 16 c.H4
  dig_H5 := BitVec.ofInt 16 c.H5
  dig_H6 := BitVec.ofInt 8 c.H6

/-- The SAMPLE_IN bundle from operands in range (R82). -/
def sampleOperandsToBundle (r : SampleOperands) : RawSample where
  adc_P := BitVec.ofInt 20 r.P
  adc_T := BitVec.ofInt 20 r.T
  adc_H := BitVec.ofInt 16 r.H

/-- The read select of a register name (R61, R85). -/
def readSelect : ReadName → BitVec 3
  | .status => 0b000
  | .tFine => 0b001
  | .tOut => 0b010
  | .pOut => 0b011
  | .hOut => 0b100

/-- The command byte of `i` with the ports `p`. -/
def commandOf (i : Instr) (p : Ports) : HostAction := .command (encode i) p

/-- The host actions of a line whose operands are in range. `idle` is what the ports carry where the line presents no
bundle. READING expands to LOAD_SAMPLE and COMP_ALL (R86). -/
def expandLine (idle : Ports) : Line → List HostAction
  | .nop => [commandOf .nop idle]
  | .loadCal ops => [commandOf .loadCal { idle with calIn := calOperandsToBundle ops }]
  | .loadSample ops => [commandOf .loadSample { idle with sampleIn := sampleOperandsToBundle ops }]
  | .compT => [commandOf .compT idle]
  | .compP => [commandOf .compP idle]
  | .compH => [commandOf .compH idle]
  | .compAll => [commandOf .compAll idle]
  | .reading ops => [commandOf .loadSample { idle with sampleIn := sampleOperandsToBundle ops }, commandOf .compAll idle]
  | .reset => [.reset]
  | .read reg => [.read (readSelect reg)]

/-- One line assembled: "A value outside the field's range is an assembly error, not a wrap" (R85). -/
def assembleLine (idle : Ports) (l : Line) : Except AsmError (List HostAction) :=
  if l.wf then .ok (expandLine idle l) else .error .outOfRange

/-- A listing assembled, line after line; the first error stops it. -/
def assembleLines (idle : Ports) : List Line → Except AsmError (List HostAction)
  | [] => .ok []
  | l :: ls =>
    match assembleLine idle l, assembleLines idle ls with
    | .error e, _ => .error e
    | .ok _, .error e => .error e
    | .ok as, .ok bs => .ok (as ++ bs)

/-! ### Text to tokens -/

/-- The characters of a mnemonic, a name or a number. DESIGN CHOICE (log entry 11): R85 names no character set. -/
def isWordChar (c : Char) : Bool := c.isAlphanum || c == '_' || c == '-'

/-- The characters that may stand between tokens. DESIGN CHOICE (log entry 11): R85 does not speak of them; a carriage return
is a blank like a space or a tab, and only a line feed ends a line. -/
def isBlankChar (c : Char) : Bool := c == ' ' || c == '\t' || c == '\r'

/-- The word collected so far, in front of the tokens that follow it. -/
def flushWord (acc : List Char) (ts : List Token) : List Token :=
  if acc.isEmpty then ts else .word acc.reverse :: ts

def consToken (acc : List Char) (t : Token) : Except AsmError (List Token) → Except AsmError (List Token)
  | .ok ts => .ok (flushWord acc (t :: ts))
  | .error e => .error e

/-- Tokens of a text. `inComment` says that a `;` has opened a comment, which runs to the end of the line (R85); `acc` holds
the word being read, last character first. -/
def lex (inComment : Bool) (acc : List Char) : List Char → Except AsmError (List Token)
  | [] => .ok (flushWord acc [])
  | c :: cs =>
    if c == '\n' then consToken acc .newline (lex false [] cs)
    else if inComment then lex true acc cs
    else if c == ';' then lex true acc cs
    else if isWordChar c then lex false (c :: acc) cs
    else if isBlankChar c then
      match lex false [] cs with
      | .ok ts => .ok (flushWord acc ts)
      | .error e => .error e
    else if c == '=' then consToken acc .eq (lex false [] cs)
    else if c == ',' then consToken acc .comma (lex false [] cs)
    else .error .badCharacter

/-- A line ending in a comma goes on in the next line, as the LOAD_CAL form of R85 is written. -/
def joinLines (afterComma : Bool) : List Token → List Token
  | [] => []
  | .newline :: ts => if afterComma then joinLines true ts else .newline :: joinLines false ts
  | .comma :: ts => .comma :: joinLines true ts
  | .eq :: ts => .eq :: joinLines false ts
  | .word cs :: ts => .word cs :: joinLines false ts

/-- The statements: what stands between newlines, empty lines included. -/
def splitStatements : List Token → List (List Token)
  | [] => [[]]
  | .newline :: ts => [] :: splitStatements ts
  | t :: ts =>
    match splitStatements ts with
    | [] => [[t]]
    | st :: rest => (t :: st) :: rest

/-! ### Numbers: "decimal or `0x` hexadecimal", "a leading `-` where the field is signed" (R85) -/

def decDigit (c : Char) : Option Nat :=
  if '0' ≤ c ∧ c ≤ '9' then some (c.toNat - 48) else none

def hexDigit (c : Char) : Option Nat :=
  if '0' ≤ c ∧ c ≤ '9' then some (c.toNat - 48)
  else if 'a' ≤ c ∧ c ≤ 'f' then some (c.toNat - 87)
  else if 'A' ≤ c ∧ c ≤ 'F' then some (c.toNat - 55)
  else none

/-- The digits of a number in base `base`, most significant first, after the value `acc`. -/
def digitsValue (base : Nat) (digit : Char → Option Nat) (acc : Nat) : List Char → Except AsmError Nat
  | [] => .ok acc
  | c :: cs =>
    match digit c with
    | some d => digitsValue base digit (acc * base + d) cs
    | none => .error .badNumber

def magnitude : List Char → Except AsmError Nat
  | [] => .error .badNumber
  | ['0', 'x'] => .error .badNumber
  | '0' :: 'x' :: ds => digitsValue 16 hexDigit 0 ds
  | ds => digitsValue 10 decDigit 0 ds

def parseNumber (signed : Bool) : List Char → Except AsmError Int
  | '-' :: ds =>
    if signed then
      match magnitude ds with
      | .ok n => .ok (-(n : Int))
      | .error e => .error e
    else .error .signNotAllowed
  | ds =>
    match magnitude ds with
    | .ok n => .ok (n : Int)
    | .error e => .error e

/-! ### Tokens to lines -/

/-- The operands of LOAD_CAL in the order of R85: the name, and whether the field is signed (R33). -/
def calFields : List (List Char × Bool) :=
  [(['T', '1'], false), (['T', '2'], true), (['T', '3'], true)] ++
  [(['P', '1'], false), (['P', '2'], true), (['P', '3'], true), (['P', '4'], true), (['P', '5'], true)] ++
  [(['P', '6'], true), (['P', '7'], true), (['P', '8'], true), (['P', '9'], true)] ++
  [(['H', '1'], false), (['H', '2'], true), (['H', '3'], false), (['H', '4'], true), (['H', '5'], true)] ++
  [(['H', '6'], true)]

/-- The operands of LOAD_SAMPLE and READING (R85, R86). -/
def sampleFields : List (List Char × Bool) := [(['P'], false), (['T'], false), (['H'], false)]

/-- `NAME = value` for each field in order, with a comma between two and, as in the forms of R85, none after the last.
DESIGN CHOICE (log entry 11): a comma after the last operand is an error, whatever follows it. -/
def parseFields : List (List Char × Bool) → List Token → Except AsmError (List Int)
  | [], [] => .ok []
  | [(name, signed)], [.word k, .eq, .word v] =>
    if k = name then
      match parseNumber signed v with
      | .ok n => .ok [n]
      | .error e => .error e
    else .error .badOperands
  | (name, signed) :: f :: fs, .word k :: .eq :: .word v :: .comma :: ts =>
    if k = name then
      match parseNumber signed v, parseFields (f :: fs) ts with
      | .ok n, .ok ns => .ok (n :: ns)
      | .error e, _ => .error e
      | .ok _, .error e => .error e
    else .error .badOperands
  | _, _ => .error .badOperands

def calOperandsOf : List Int → Except AsmError CalOperands
  | [t1, t2, t3, p1, p2, p3, p4, p5, p6, p7, p8, p9, h1, h2, h3, h4, h5, h6] =>
    .ok { T1 := t1, T2 := t2, T3 := t3, P1 := p1, P2 := p2, P3 := p3, P4 := p4, P5 := p5, P6 := p6, P7 := p7, P8 := p8,
          P9 := p9, H1 := h1, H2 := h2, H3 := h3, H4 := h4, H5 := h5, H6 := h6 }
  | _ => .error .badOperands

def parseCal (ts : List Token) : Except AsmError CalOperands :=
  match parseFields calFields ts with
  | .ok ns => calOperandsOf ns
  | .error e => .error e

def parseSample (ts : List Token) : Except AsmError SampleOperands :=
  match parseFields sampleFields ts with
  | .ok [p, t, h] => .ok { P := p, T := t, H := h }
  | .ok _ => .error .badOperands
  | .error e => .error e

def parseReadName : List Token → Except AsmError ReadName
  | [.word w] =>
    if w = "STATUS".toList then .ok .status
    else if w = "T_FINE".toList then .ok .tFine
    else if w = "T_OUT".toList then .ok .tOut
    else if w = "P_OUT".toList then .ok .pOut
    else if w = "H_OUT".toList then .ok .hOut
    else .error .badOperands
  | _ => .error .badOperands

/-- A line of a form without operands. -/
def bareLine (l : Line) : List Token → Except AsmError Line
  | [] => .ok l
  | _ :: _ => .error .badOperands

/-- One statement that begins with the word `m` (R85, R86). -/
def parseMnemonic (m : List Char) (ts : List Token) : Except AsmError Line :=
  if m = "NOP".toList then bareLine .nop ts
  else if m = "LOAD_CAL".toList then (parseCal ts).map .loadCal
  else if m = "LOAD_SAMPLE".toList then (parseSample ts).map .loadSample
  else if m = "COMP_T".toList then bareLine .compT ts
  else if m = "COMP_P".toList then bareLine .compP ts
  else if m = "COMP_H".toList then bareLine .compH ts
  else if m = "COMP_ALL".toList then bareLine .compAll ts
  else if m = "READING".toList then (parseSample ts).map .reading
  else if m = "RESET".toList then bareLine .reset ts
  else if m = "READ".toList then (parseReadName ts).map .read
  else .error .unknownMnemonic

/-- The statements of a listing in order; an empty one is skipped, and the first error stops it. -/
def parseStatements : List (List Token) → Except AsmError (List Line)
  | [] => .ok []
  | [] :: rest => parseStatements rest
  | (.word m :: ts) :: rest =>
    match parseMnemonic m ts, parseStatements rest with
    | .ok l, .ok ls => .ok (l :: ls)
    | .error e, _ => .error e
    | .ok _, .error e => .error e
  | _ :: _ => .error .unknownMnemonic

/-- The lines of a listing's text. -/
def parseListing (text : List Char) : Except AsmError (List Line) :=
  match lex false [] text with
  | .ok ts => parseStatements (splitStatements (joinLines false ts))
  | .error e => .error e

/-- A listing's text to host actions. -/
def assemble (idle : Ports) (text : List Char) : Except AsmError (List HostAction) :=
  match parseListing text with
  | .ok ls => assembleLines idle ls
  | .error e => .error e

end Sys2Proof.Machine
end

