-- ==== Sys2Proof/Machine/SensorLayout.lean ====
section
/-! DEFINITION. The sensor-side layouts the host builds the bundles from (R72, R73). They are no part of the block: "Those
orders bind the loader" (R64). They are given as pure functions from sensor bytes to bundles. -/

namespace Sys2Proof.Machine

/-- The chip-ID register and the value it reads on a BME280 (R72). -/
def chipIdRegister : Nat := 0xD0
def chipIdValue : Byte := 0x60

/-- Base address and length of the two calibration blocks and of the data region, and the two control registers (R72). -/
def calBlock1 : Nat × Nat := (0x88, 26)
def calBlock2 : Nat × Nat := (0xE1, 7)
def dataRegion : Nat × Nat := (0xF7, 8)
def humidityControl : Nat := 0xF2
def measurementControl : Nat := 0xF4

/-- A 16-bit calibration pair, low byte first (R73): {c[i + 1], c[i]}. -/
def calPair (c : Nat → Byte) (i : Nat) : BitVec 16 := c (i + 1) ++ c i

/-- The 12 bits of dig_H4: {c[0xE4], c[0xE5][3:0]} (R73; the spec's choice where its source words it otherwise, N5). -/
def rawH4 (c : Nat → Byte) : BitVec 12 := c 0xE4 ++ (c 0xE5).extractLsb' 0 4

/-- The 12 bits of dig_H5: {c[0xE6], c[0xE5][7:4]} (R73). -/
def rawH5 (c : Nat → Byte) : BitVec 12 := c 0xE6 ++ (c 0xE5).extractLsb' 4 4

/-- The LOAD_CAL bundle from sensor bytes (R73). `extend` is the loader's choice of a 12-bit to 16-bit extension, which the
spec leaves outside the block (R34, D26). -/
def calFromBytes (extend : BitVec 12 → BitVec 16) (c : Nat → Byte) : CalibrationSet where
  dig_T1 := calPair c 0x88
  dig_T2 := calPair c 0x8A
  dig_T3 := calPair c 0x8C
  dig_P1 := calPair c 0x8E
  dig_P2 := calPair c 0x90
  dig_P3 := calPair c 0x92
  dig_P4 := calPair c 0x94
  dig_P5 := calPair c 0x96
  dig_P6 := calPair c 0x98
  dig_P7 := calPair c 0x9A
  dig_P8 := calPair c 0x9C
  dig_P9 := calPair c 0x9E
  dig_H1 := c 0xA1
  dig_H2 := calPair c 0xE1
  dig_H3 := c 0xE3
  dig_H4 := extend (rawH4 c)
  dig_H5 := extend (rawH5 c)
  dig_H6 := c 0xE7

/-- The LOAD_SAMPLE bundle from the 8 data bytes `d[0..7]` (R73): pressure, temperature, humidity, big-endian. -/
def sampleFromBytes (d : Nat → Byte) : RawSample where
  adc_P := d 0 ++ d 1 ++ (d 2).extractLsb' 4 4
  adc_T := d 3 ++ d 4 ++ (d 5).extractLsb' 4 4
  adc_H := d 6 ++ d 7

end Sys2Proof.Machine
end

