-- ==== Sys2Proof/Reference.lean ====
section
/-! DEFINITION. The three units over exact integers: every operation computed without a width and then wrapped, as R15 to R20
define the datapath. It is a second reading of R121, R123, R141, R142 and R171, against which the 32-bit datapath is held. -/

namespace Sys2Proof.Reference

/-- The value in -2^31 .. 2^31 - 1 congruent to `x` modulo 2^32 (R15). -/
def s32 (x : Int) : Int := if x % 2 ^ 32 < 2 ^ 31 then x % 2 ^ 32 else x % 2 ^ 32 - 2 ^ 32

/-- The value in 0 .. 2^32 - 1 congruent to `x` modulo 2^32 (R16). -/
def u32 (x : Int) : Int := x % 2 ^ 32

/-- floor(a / 2^k) (R17, R18). -/
def shr (a : Int) (k : Nat) : Int := a / 2 ^ k

/-- R121. -/
def fineTemp (adcT T1 T2 T3 : Int) : Int :=
  let var1 := shr (s32 (s32 (shr adcT 3 - s32 (T1 * 2)) * T2)) 11
  let tmp := s32 (shr adcT 4 - T1)
  let var2 := shr (s32 (shr (s32 (tmp * tmp)) 12 * T3)) 14
  s32 (var1 + var2)

/-- R123. -/
def compT (tf : Int) : Int := shr (s32 (s32 (tf * 5) + 128)) 8

/-- R141, for `d ≠ 0`. -/
def pdiv (p d : Int) : Int := if p < 2 ^ 31 then u32 (p * 2) / d else u32 (p / d * 2)

/-- R142 with the guard of R143. -/
def compP (adcP tf P1 P2 P3 P4 P5 P6 P7 P8 P9 : Int) : Int :=
  let v0 := s32 (shr tf 1 - 64000)
  let sq := s32 (shr v0 2 * shr v0 2)
  let w0 := s32 (shr sq 11 * P6)
  let w1 := s32 (w0 + s32 (s32 (v0 * P5) * 2))
  let w2 := s32 (shr w1 2 + s32 (P4 * 2 ^ 16))
  let v1 := shr (s32 (shr (s32 (P3 * shr sq 13)) 3 + shr (s32 (P2 * v0)) 1)) 18
  let d := shr (s32 (s32 (32768 + v1) * P1)) 15
  if d = 0 then 0
  else
    let p0 := u32 (u32 (u32 (1048576 - adcP) - u32 (shr w2 12)) * 3125)
    let p1 := pdiv p0 (u32 d)
    let c9 := shr (s32 (P9 * s32 (shr (u32 (shr p1 3 * shr p1 3)) 13))) 12
    let c8 := shr (s32 (s32 (shr p1 2) * P8)) 13
    u32 (s32 p1 + shr (s32 (s32 (c9 + c8) + P7)) 4)

/-- R171 up to the clamp. -/
def humidityRaw (adcH tf H1 H2 H3 H4 H5 H6 : Int) : Int :=
  let v := s32 (tf - 76800)
  let a := shr (s32 (s32 (s32 (s32 (adcH * 2 ^ 14) - s32 (H4 * 2 ^ 20)) - s32 (H5 * v)) + 16384)) 15
  let b1 := shr (s32 (v * H6)) 10
  let b2 := s32 (shr (s32 (v * H3)) 11 + 32768)
  let b := shr (s32 (s32 (s32 (shr (s32 (b1 * b2)) 10 + 2097152) * H2) + 8192)) 14
  let w := s32 (a * b)
  s32 (w - shr (s32 (shr (s32 (shr w 15 * shr w 15)) 7 * H1)) 4)

/-- R171 with the clamp of R172 and the final shift of R173. -/
def compH (adcH tf H1 H2 H3 H4 H5 H6 : Int) : Int :=
  shr (min (max (humidityRaw adcH tf H1 H2 H3 H4 H5 H6) 0) 419430400) 12

end Sys2Proof.Reference
end

