-- ==== Sys2Proof/Safety.lean ====
section
/-! DEFINITION. The words claims are stated in: runs and their reading (R250), halting (R204), the fault table as data (R201),
and what a valid register means (R38 to R40). -/

namespace Sys2Proof.Safety

open Sys2Proof.Machine

/-- Two states agree on every register of the block: CAL, SAMPLE, T_FINE, the outputs and STATUS. -/
structure SameRegisters (s t : State) : Prop where
  cal : t.cal = s.cal
  sample : t.sample = s.sample
  tFine : t.tFine = s.tFine
  tOut : t.tOut = s.tOut
  pOut : t.pOut = s.pOut
  hOut : t.hOut = s.hOut
  fault : t.fault = s.fault

/-- What the validity bits promise (the "meaning" column of R40, and R38): a valid T_FINE is the one computed from the
current CAL and SAMPLE, and a valid output is the result of its unit on them. -/
structure Coherent (s : State) : Prop where
  tFine : ∀ v, s.tFine = some v → ∃ c r, s.cal = some c ∧ s.sample = some r ∧ v = fineTempOf c r
  tOut : ∀ v, s.tOut = some v → ∃ tf, s.tFine = some tf ∧ v = Machine.compT tf
  pOut : ∀ v, s.pOut = some v →
    ∃ c r tf, s.cal = some c ∧ s.sample = some r ∧ s.tFine = some tf ∧ v = compPOf c r tf
  hOut : ∀ v, s.hOut = some v →
    ∃ c r tf, s.cal = some c ∧ s.sample = some r ∧ s.tFine = some tf ∧ v = compHOf c r tf

/-- The table of R201: the first check of a command that holds, or `none`. -/
def firstFault (i : Instr) (s : State) : Option FaultCode :=
  match i with
  | .nop => none
  | .loadCal => if s.calValid then some .calReload else none
  | .loadSample => none
  | .compT => if !s.calValid then some .noCal else if !s.sampleValid then some .noSample else none
  | .compP =>
    if !s.calValid then some .noCal else if !s.sampleValid then some .noSample
    else if !s.tfineValid then some .staleTfine else none
  | .compH =>
    if !s.calValid then some .noCal else if !s.sampleValid then some .noSample
    else if !s.tfineValid then some .staleTfine else none
  | .compAll => if !s.calValid then some .noCal else if !s.sampleValid then some .noSample else none

/-- `n` steps from `s` end in `t`. -/
def RunsTo (n : Nat) (s t : State) : Prop := core.run n s = .next t

/-- The interaction is no reset. -/
def NoReset (a : HostAction) : Prop := a ≠ .reset

/-- A run (R250) that starts at `s` and ends in `t`: "a reset followed by a finite list of host interactions (commands and
reads)". The list holds no second reset. -/
def IsRun (s : State) (acts : List HostAction) (t : State) : Prop :=
  (∀ a ∈ acts, NoReset a) ∧ RunsTo (acts.length + 1) { s with pending := .reset :: acts } t

/-- A run succeeds "iff its end state has `STATUS.FAULT = 0`" (R250). -/
def Succeeds (t : State) : Prop := t.halted = false

/-- A run's reading (R250): each output "taken only if its validity bit is 1". -/
structure Reading where
  tFine : Option Word
  tOut : Option Word
  pOut : Option Word
  hOut : Option Word
  deriving DecidableEq, Repr

/-- The reading of an end state (R250). -/
def readingOf (t : State) : Reading where
  tFine := t.tFine
  tOut := t.tOut
  pOut := t.pOut
  hOut := t.hOut

/-- The complete reading of a CalibrationSet and a RawSample: the engine as one "Pure function of (RawSample,
CalibrationSet)" (44_sequence.md). -/
def completeReading (c : CalibrationSet) (r : RawSample) : Reading where
  tFine := some (fineTempOf c r)
  tOut := some (Machine.compT (fineTempOf c r))
  pOut := some (compPOf c r (fineTempOf c r))
  hOut := some (compHOf c r (fineTempOf c r))

/-- The next interaction is the reset event. -/
def ResetNext (s : State) : Prop := ∃ rest, s.pending = .reset :: rest

/-- The next interaction is a command whose byte is one of `cmds`. -/
def CommandNext (s : State) (cmds : List Byte) : Prop := ∃ cmd p rest, s.pending = .command cmd p :: rest ∧ cmd ∈ cmds

/-- Bit `k` of STATUS goes from 0 to 1. -/
abbrev Rises (k : Nat) (s t : State) : Prop := s.status.getLsbD k = false ∧ t.status.getLsbD k = true

/-- Bit `k` of STATUS goes from 1 to 0. -/
abbrev Falls (k : Nat) (s t : State) : Prop := s.status.getLsbD k = true ∧ t.status.getLsbD k = false

/-- The interaction is not a command with one of the bytes `cmds`. -/
def NotCommand (cmds : List Byte) (a : HostAction) : Prop :=
  match a with
  | .command cmd _ => cmd ∉ cmds
  | .reset => True
  | .read _ => True

/-- The interaction is a NOP command or a host read. -/
def NopOrRead (a : HostAction) : Prop :=
  match a with
  | .command cmd _ => cmd = 0x00
  | .reset => False
  | .read _ => True

/-- Calibration set A of 95_test_vectors.md, the constants of the spec's worked examples. -/
def setA : CalibrationSet where
  dig_T1 := 27504
  dig_T2 := 26435
  dig_T3 := -1000
  dig_P1 := 36477
  dig_P2 := -10685
  dig_P3 := 3024
  dig_P4 := 2855
  dig_P5 := 140
  dig_P6 := -7
  dig_P7 := 15500
  dig_P8 := -14600
  dig_P9 := 6000
  dig_H1 := 75
  dig_H2 := 362
  dig_H3 := 0
  dig_H4 := 313
  dig_H5 := 50
  dig_H6 := 30

/-- The sample of the spec's worked examples (95_test_vectors.md V-S1). -/
def sampleA : RawSample where
  adc_P := 415148
  adc_T := 519888
  adc_H := 27000

/-- The state is about to take the command byte `cmd` with the port values `p`. -/
def Presents (s : State) (cmd : Byte) (p : Ports) (rest : List HostAction) : Prop :=
  s.pending = .command cmd p :: rest

/-- The state in which the command rule runs: the command is taken from the list and its port values are on the ports. -/
def accepted (s : State) (p : Ports) (rest : List HostAction) : State :=
  { s with pending := rest, ports := p, drawIndex := s.drawIndex + 1 }

/-- The interaction is a command. -/
def isCommand (a : HostAction) : Bool :=
  match a with
  | .command _ _ => true
  | .reset => false
  | .read _ => false

/-- The commands among the interactions, in their order: what is left when the host reads are taken out. -/
def commandsOf (acts : List HostAction) : List HostAction := acts.filter isCommand

/-- The three ways R231 gives to compute one reading after LOAD_SAMPLE: COMP_T then COMP_P and COMP_H in either order, or
COMP_ALL alone. -/
inductive ComputeForm where
  | pressureFirst
  | humidityFirst
  | whole
  deriving DecidableEq, Repr

/-- One reading cycle of R231 as host actions: LOAD_SAMPLE, then the chosen commands. `p` and `q` are what the ports carry:
`p` with LOAD_SAMPLE, `q` with the compute commands. -/
def readingCycle (form : ComputeForm) (p q : Ports) : List HostAction :=
  .command 0x02 p ::
    match form with
    | .pressureFirst => [.command 0x03 q, .command 0x04 q, .command 0x05 q]
    | .humidityFirst => [.command 0x03 q, .command 0x05 q, .command 0x04 q]
    | .whole => [.command 0x06 q]

/-- The commands of a session of R231 after its reset: LOAD_CAL once, then the reading cycles, the last of them
`form`, `p`, `q`. -/
def sessionCommands (p0 : Ports) (cycles : List (ComputeForm × Ports × Ports)) (form : ComputeForm) (p q : Ports) :
    List HostAction :=
  .command 0x01 p0 :: (cycles.flatMap (fun x => readingCycle x.1 x.2.1 x.2.2) ++ readingCycle form p q)

/-- Step 4(d) of R231: the host reads T_OUT, P_OUT and H_OUT (the selects of R61). -/
def outputReads : List HostAction := [.read 0b010, .read 0b011, .read 0b100]

end Sys2Proof.Safety
end

