-- ==== Sys2Proof/Certificates/Slice0/Obligations.lean ====
section
/-! DEFINITION. The statements for the provers, from the spec's numbered rules. Each is a definition of a proposition; none is
proved here. Where one speaks of `pending`, `ports`, `received` or `drawIndex` (through `accepted` too), it speaks of the
model's own fields: log entries 2, 4, 6 and 5. -/

open Sys2Proof Sys2Proof.Machine Sys2Proof.Safety

/-! ### Reset, the step frame, faults -/

/-- R44: after reset STATUS is 0x0000 and no data register holds a value. -/
def Obligations.ResetStateHoldsNothing : Prop :=
  State.reset.status = 0x0000 ∧ State.reset.cal = none ∧ State.reset.sample = none ∧ State.reset.tFine = none ∧
  State.reset.tOut = none ∧ State.reset.pOut = none ∧ State.reset.hOut = none

/-- The reset event (R230): it is taken in any state, a halted one too, and establishes R44; then the block waits. It is the
only way out of a halt and the only way to a new CalibrationSet. R230 says nothing of the ports, of the values already read or
of the interactions to come: that a reset leaves the ports (log entry 4) and the received values (log entry 6) as they are and
only takes itself off the pending list (log entry 2) is the model's choice. -/
def Obligations.ResetEventInAnyState : Prop :=
  (∀ (s : State) (rest : List HostAction), s.pending = .reset :: rest →
    ∃ t, step s = .next t ∧ t.status = 0x0000 ∧ t.cal = none ∧ t.sample = none ∧ t.tFine = none ∧ t.tOut = none ∧
      t.pOut = none ∧ t.hOut = none ∧ t.fault = none ∧ t.pending = rest ∧ t.ports = s.ports ∧ t.received = s.received ∧
      (rest = [] → step t = .next t)) ∧
  (∀ s t : State, step s = .next t → s.halted = true → t.halted = false → ResetNext s) ∧
  (∀ (s t : State) (c : CalibrationSet), step s = .next t → s.cal = some c → t.cal ≠ some c → ResetNext s)

/-- R203: the frame of a command. When the presented byte decodes to `i` and the block is not halted, the step is `exec i` on
the state in which the command has been taken; and a fault raised by a command rule changes FAULT and FCODE alone. -/
def Obligations.StepRunsTheDecodedCommand : Prop :=
  (∀ (s : State) (cmd : Byte) (p : Ports) (rest : List HostAction), Presents s cmd p rest →
    (s.halted = true → step s = .next (accepted s p rest)) ∧
    (s.halted = false → (rsvField cmd ≠ 0 ∨ opField cmd = 7) →
      step s = .next { accepted s p rest with fault := some .illegalCmd }) ∧
    (∀ i : Instr, s.halted = false → decode cmd = .ok i → step s = exec i (accepted s p rest))) ∧
  (∀ (i : Instr) (s t : State), exec i s = .next t → t.fault ≠ s.fault → ∃ code, t = { s with fault := some code })

/-- The host may do nothing, and then the block does nothing (20_memory.md section 1, 60_exceptions.md section 6). -/
def Obligations.IdleBlockDoesNothing : Prop :=
  ∀ s : State, s.pending = [] → step s = .next s

/-- No rule stops the machine: from every state, whatever the host presents, a step answers a next state; and so does every
command rule. -/
def Obligations.EveryStepAnswersANextState : Prop :=
  (∀ s : State, ∃ t, step s = .next t) ∧ (∀ (i : Instr) (s : State), ∃ t, exec i s = .next t)

/-- R201, R202: the checks of each command in their order, and what a fault leaves. -/
def Obligations.FirstFailingCheckIsTheFault : Prop :=
  (∀ (i : Instr) (s : State), s.halted = false →
    ∃ t, exec i s = .next t ∧ t.fault = firstFault i s ∧
      ∀ code, firstFault i s = some code → t = { s with fault := some code }) ∧
  (∀ (s : State) (cmd : Byte) (p : Ports) (rest : List HostAction), Presents s cmd p rest → s.halted = false →
    7 ≤ cmd.toNat → step s = .next { accepted s p rest with fault := some .illegalCmd }) ∧
  (∀ (s t : State) (f : FaultCode), step s = .next t → s.fault = some f → t.fault = some f ∨ ResetNext s) ∧
  (∀ s : State, Coherent s → s.tfineValid = true → s.sampleValid = true ∧ s.calValid = true)

/-- R204: a halted block ignores every command until reset, for any number of interactions; reads still work. -/
def Obligations.HaltedBlockIgnoresCommandsUntilReset : Prop :=
  (∀ (acts rest : List HostAction) (s : State), s.halted = true → s.pending = acts ++ rest → (∀ a ∈ acts, NoReset a) →
    ∃ t, RunsTo acts.length s t ∧ SameRegisters s t ∧ t.pending = rest) ∧
  (∀ (s : State) (select : BitVec 3) (rest : List HostAction), s.halted = true → s.pending = .read select :: rest →
    step s = .next { s with pending := rest, received := s.readPort select :: s.received }) ∧
  (∀ s t : State, step s = .next t → s.halted = true → t.halted = false → ResetNext s)

/-! ### STATUS and the registers -/

/-- R40: the layout of STATUS, what sets and clears each field, and that a host read or an idle step changes none of it. -/
def Obligations.StatusFieldsAndWhatChangesThem : Prop :=
  State.reset.status = 0x0000 ∧
  (∀ s : State,
    s.status.getLsbD 0 = s.calValid ∧ s.status.getLsbD 1 = s.sampleValid ∧ s.status.getLsbD 2 = s.tfineValid ∧
    s.status.getLsbD 3 = s.tValid ∧ s.status.getLsbD 4 = s.pValid ∧ s.status.getLsbD 5 = s.hValid ∧
    s.status.extractLsb' 6 2 = 0 ∧ s.status.getLsbD 8 = s.halted ∧ s.status.extractLsb' 9 3 = s.fcode ∧
    s.status.extractLsb' 12 4 = 0 ∧ s.fcode.toNat ≤ 5 ∧ (s.halted = false ↔ s.fcode = 0)) ∧
  (∀ s t : State, step s = .next t →
    (Rises 0 s t → CommandNext s [0x01]) ∧ (Falls 0 s t → ResetNext s) ∧
    (Rises 1 s t → CommandNext s [0x02]) ∧ (Falls 1 s t → ResetNext s) ∧
    (Rises 2 s t → CommandNext s [0x03, 0x06]) ∧ (Falls 2 s t → CommandNext s [0x02] ∨ ResetNext s) ∧
    (Rises 3 s t → CommandNext s [0x03, 0x06]) ∧ (Falls 3 s t → CommandNext s [0x02] ∨ ResetNext s) ∧
    (Rises 4 s t → CommandNext s [0x04, 0x06]) ∧ (Falls 4 s t → CommandNext s [0x02] ∨ ResetNext s) ∧
    (Rises 5 s t → CommandNext s [0x05, 0x06]) ∧ (Falls 5 s t → CommandNext s [0x02] ∨ ResetNext s) ∧
    (Rises 8 s t → ∃ cmd p rest, Presents s cmd p rest) ∧ (Falls 8 s t → ResetNext s) ∧
    (s.fcode ≠ 0 → t.fcode = s.fcode ∨ ResetNext s) ∧
    (∀ select rest, s.pending = .read select :: rest → t.status = s.status) ∧ (s.pending = [] → t.status = s.status))

/-- Only the commands 10_state.md names write a register, and with these values. -/
def Obligations.OnlyNamedCommandsWriteRegisters : Prop :=
  ∀ s t : State, step s = .next t →
    (∀ c, t.cal = some c → s.cal = some c ∨ ∃ p rest, Presents s 0x01 p rest ∧ s.cal = none ∧ c = p.calIn) ∧
    (∀ r, t.sample = some r → s.sample = some r ∨ ∃ p rest, Presents s 0x02 p rest ∧ r = p.sampleIn) ∧
    (∀ v, t.tFine = some v → s.tFine = some v ∨
      CommandNext s [0x03, 0x06] ∧ ∃ c r, s.cal = some c ∧ s.sample = some r ∧ v = fineTempOf c r) ∧
    (∀ v, t.tOut = some v → s.tOut = some v ∨
      CommandNext s [0x03, 0x06] ∧ ∃ c r, s.cal = some c ∧ s.sample = some r ∧ v = compT (fineTempOf c r)) ∧
    (∀ v, t.pOut = some v → s.pOut = some v ∨
      CommandNext s [0x04, 0x06] ∧
        ∃ c r tf, s.cal = some c ∧ s.sample = some r ∧ t.tFine = some tf ∧ v = compPOf c r tf) ∧
    (∀ v, t.hOut = some v → s.hOut = some v ∨
      CommandNext s [0x05, 0x06] ∧
        ∃ c r tf, s.cal = some c ∧ s.sample = some r ∧ t.tFine = some tf ∧ v = compHOf c r tf)

/-- R35: CAL is immutable while it is valid, for any number of interactions without a reset. -/
def Obligations.CalibrationIsImmutableUntilReset : Prop :=
  (∀ (s : State) (c : CalibrationSet), s.cal = some c → exec .loadCal s = .next { s with fault := some .calReload }) ∧
  (∀ (acts rest : List HostAction) (s : State) (c : CalibrationSet), s.cal = some c → s.pending = acts ++ rest →
    (∀ a ∈ acts, NoReset a) → ∃ t, RunsTo acts.length s t ∧ t.cal = some c)

/-- R61: the read port. Reads have no side effect, and reads between the same two commands agree, the ones of a register
without a value too. -/
def Obligations.ReadPortIsPureAndRepeatable : Prop :=
  (∀ (s : State) (select : BitVec 3) (rest : List HostAction), s.pending = .read select :: rest →
    step s = .next { s with pending := rest, received := s.readPort select :: s.received }) ∧
  (∀ s : State, s.readPort 0b000 = s.status.setWidth 32 ∧
    (∀ v, s.tFine = some v → s.readPort 0b001 = v) ∧ (∀ v, s.tOut = some v → s.readPort 0b010 = v) ∧
    (∀ v, s.pOut = some v → s.readPort 0b011 = v) ∧ (∀ v, s.hOut = some v → s.readPort 0b100 = v) ∧
    s.readPort 0b101 = 0 ∧ s.readPort 0b110 = 0 ∧ s.readPort 0b111 = 0) ∧
  (∀ (selects : List (BitVec 3)) (rest : List HostAction) (s : State),
    s.pending = selects.map HostAction.read ++ rest →
    RunsTo selects.length s { s with pending := rest, received := (selects.map s.readPort).reverse ++ s.received })

/-! ### Encoding -/

/-- R83: the rows of the opcode map, and some bytes outside it, decoded. -/
def Obligations.OpcodeMapBytesDecode : Prop :=
  decode 0x00 = .ok .nop ∧ decode 0x01 = .ok .loadCal ∧ decode 0x02 = .ok .loadSample ∧ decode 0x03 = .ok .compT ∧
  decode 0x04 = .ok .compP ∧ decode 0x05 = .ok .compH ∧ decode 0x06 = .ok .compAll ∧ decode 0x07 = .error .reservedOp ∧
  ∀ b : Byte, 8 ≤ b.toNat → decode b = .error .reservedBits

/-- R81: a byte is legal iff RSV = 0 and OP is not 0b111; executing any other byte faults with ILLEGAL_CMD and does nothing
else; decode and encode are inverse on the legal bytes. -/
def Obligations.LegalBytesAreTheEncodings : Prop :=
  (∀ b : Byte, (rsvField b).toNat = b.toNat / 8 ∧ (opField b).toNat = b.toNat % 8) ∧
  (∀ b : Byte, (∃ i, decode b = .ok i) ↔ rsvField b = 0 ∧ opField b ≠ 7) ∧
  (∀ (s : State) (b : Byte) (p : Ports) (rest : List HostAction), Presents s b p rest → s.halted = false →
    (∀ i, decode b ≠ .ok i) →
    ∃ t, step s = .next t ∧ t = { accepted s p rest with fault := some .illegalCmd } ∧ t.fcode = 1) ∧
  (∀ i : Instr, decode (encode i) = .ok i) ∧
  (∀ (b : Byte) (i : Instr), decode b = .ok i → encode i = b)

/-- R86: READING expands to LOAD_SAMPLE and COMP_ALL, the bytes 0x02 and 0x06. -/
def Obligations.ReadingExpandsToTwoCommands : Prop :=
  ∀ (idle : Ports) (ops : SampleOperands), ops.wf = true →
    assembleLine idle (.reading ops) =
      .ok [.command 0x02 { idle with sampleIn := sampleOperandsToBundle ops }, .command 0x06 idle]

/-- 30_encoding.md section 5: an operand outside its field's range is an assembly error; an operand in range reaches the port
as the same number. Every other form assembles to the one interaction it names. What a line's other port carries is the
caller's `idle` (log entry 4). -/
def Obligations.AssemblerRangeChecksAndKeepsValues : Prop :=
  (∀ (idle : Ports) (l : Line), l.wf = false → assembleLine idle l = .error .outOfRange) ∧
  (∀ (idle : Ports) (l : Line), l.wf = true → ∃ acts, assembleLine idle l = .ok acts) ∧
  (∀ (idle : Ports) (ops : CalOperands), ops.wf = true →
    assembleLine idle (.loadCal ops) = .ok [.command 0x01 { idle with calIn := calOperandsToBundle ops }]) ∧
  (∀ (idle : Ports) (ops : SampleOperands), ops.wf = true →
    assembleLine idle (.loadSample ops) = .ok [.command 0x02 { idle with sampleIn := sampleOperandsToBundle ops }]) ∧
  (∀ idle : Ports,
    assembleLine idle .nop = .ok [.command 0x00 idle] ∧ assembleLine idle .compT = .ok [.command 0x03 idle] ∧
    assembleLine idle .compP = .ok [.command 0x04 idle] ∧ assembleLine idle .compH = .ok [.command 0x05 idle] ∧
    assembleLine idle .compAll = .ok [.command 0x06 idle] ∧ assembleLine idle .reset = .ok [.reset] ∧
    assembleLine idle (.read .status) = .ok [.read 0b000] ∧ assembleLine idle (.read .tFine) = .ok [.read 0b001] ∧
    assembleLine idle (.read .tOut) = .ok [.read 0b010] ∧ assembleLine idle (.read .pOut) = .ok [.read 0b011] ∧
    assembleLine idle (.read .hOut) = .ok [.read 0b100]) ∧
  (∀ r : SampleOperands, r.wf = true →
    ((sampleOperandsToBundle r).adc_P.toNat : Int) = r.P ∧ ((sampleOperandsToBundle r).adc_T.toNat : Int) = r.T ∧
    ((sampleOperandsToBundle r).adc_H.toNat : Int) = r.H) ∧
  (∀ c : CalOperands, c.wf = true →
    ((calOperandsToBundle c).dig_T1.toNat : Int) = c.T1 ∧ (calOperandsToBundle c).dig_T2.toInt = c.T2 ∧
    (calOperandsToBundle c).dig_T3.toInt = c.T3 ∧ ((calOperandsToBundle c).dig_P1.toNat : Int) = c.P1 ∧
    (calOperandsToBundle c).dig_P2.toInt = c.P2 ∧ (calOperandsToBundle c).dig_P3.toInt = c.P3 ∧
    (calOperandsToBundle c).dig_P4.toInt = c.P4 ∧ (calOperandsToBundle c).dig_P5.toInt = c.P5 ∧
    (calOperandsToBundle c).dig_P6.toInt = c.P6 ∧ (calOperandsToBundle c).dig_P7.toInt = c.P7 ∧
    (calOperandsToBundle c).dig_P8.toInt = c.P8 ∧ (calOperandsToBundle c).dig_P9.toInt = c.P9 ∧
    ((calOperandsToBundle c).dig_H1.toNat : Int) = c.H1 ∧ (calOperandsToBundle c).dig_H2.toInt = c.H2 ∧
    ((calOperandsToBundle c).dig_H3.toNat : Int) = c.H3 ∧ (calOperandsToBundle c).dig_H4.toInt = c.H4 ∧
    (calOperandsToBundle c).dig_H5.toInt = c.H5 ∧ (calOperandsToBundle c).dig_H6.toInt = c.H6)

/-- 20_memory.md section 4: which sensor bytes make each of the 3 counts and of the 18 constants. The extension of the 12 bits
of dig_H4 and dig_H5 is the loader's choice, a parameter (log entry 13); byte 0xA0 is not used. -/
def Obligations.SensorBytesGoWhereTheLayoutSays : Prop :=
  (∀ d : Nat → Byte,
    (sampleFromBytes d).adc_P.toNat = (d 0).toNat * 4096 + (d 1).toNat * 16 + (d 2).toNat / 16 ∧
    (sampleFromBytes d).adc_T.toNat = (d 3).toNat * 4096 + (d 4).toNat * 16 + (d 5).toNat / 16 ∧
    (sampleFromBytes d).adc_H.toNat = (d 6).toNat * 256 + (d 7).toNat) ∧
  (∀ (c : Nat → Byte) (i : Nat), (calPair c i).toNat = (c (i + 1)).toNat * 256 + (c i).toNat) ∧
  (∀ c : Nat → Byte, (rawH4 c).toNat = (c 0xE4).toNat * 16 + (c 0xE5).toNat % 16 ∧
    (rawH5 c).toNat = (c 0xE6).toNat * 16 + (c 0xE5).toNat / 16) ∧
  (∀ (extend : BitVec 12 → BitVec 16) (c : Nat → Byte),
    (calFromBytes extend c).dig_T1.toNat = (c 0x89).toNat * 256 + (c 0x88).toNat ∧
    (calFromBytes extend c).dig_T2.toNat = (c 0x8B).toNat * 256 + (c 0x8A).toNat ∧
    (calFromBytes extend c).dig_T3.toNat = (c 0x8D).toNat * 256 + (c 0x8C).toNat ∧
    (calFromBytes extend c).dig_P1.toNat = (c 0x8F).toNat * 256 + (c 0x8E).toNat ∧
    (calFromBytes extend c).dig_P2.toNat = (c 0x91).toNat * 256 + (c 0x90).toNat ∧
    (calFromBytes extend c).dig_P3.toNat = (c 0x93).toNat * 256 + (c 0x92).toNat ∧
    (calFromBytes extend c).dig_P4.toNat = (c 0x95).toNat * 256 + (c 0x94).toNat ∧
    (calFromBytes extend c).dig_P5.toNat = (c 0x97).toNat * 256 + (c 0x96).toNat ∧
    (calFromBytes extend c).dig_P6.toNat = (c 0x99).toNat * 256 + (c 0x98).toNat ∧
    (calFromBytes extend c).dig_P7.toNat = (c 0x9B).toNat * 256 + (c 0x9A).toNat ∧
    (calFromBytes extend c).dig_P8.toNat = (c 0x9D).toNat * 256 + (c 0x9C).toNat ∧
    (calFromBytes extend c).dig_P9.toNat = (c 0x9F).toNat * 256 + (c 0x9E).toNat ∧
    (calFromBytes extend c).dig_H1 = c 0xA1 ∧
    (calFromBytes extend c).dig_H2.toNat = (c 0xE2).toNat * 256 + (c 0xE1).toNat ∧
    (calFromBytes extend c).dig_H3 = c 0xE3 ∧
    (calFromBytes extend c).dig_H4 = extend (rawH4 c) ∧ (calFromBytes extend c).dig_H5 = extend (rawH5 c) ∧
    (calFromBytes extend c).dig_H6 = c 0xE7 ∧
    ∀ unused : Byte, calFromBytes extend (fun i => if i = 0xA0 then unused else c i) = calFromBytes extend c)

/-! ### The datapath -/

/-- R15, R17, R18, R20: the datapath's operations are the exact ones, then wrapped or floored. -/
def Obligations.DatapathOperationsAreExactThenWrapped : Prop :=
  (∀ a b : Word, (a + b).toInt = Reference.s32 (a.toInt + b.toInt) ∧ (a - b).toInt = Reference.s32 (a.toInt - b.toInt) ∧
    (a * b).toInt = Reference.s32 (a.toInt * b.toInt)) ∧
  (∀ (a : Word) (k : Nat), k ≤ 31 → (asr a k).toInt = a.toInt / 2 ^ k) ∧ asr (-3) 1 = -2 ∧
  (∀ k : Nat, k ≤ 31 → asr (-1) k = -1) ∧
  (∀ (u : Word) (k : Nat), k ≤ 31 → (lsr u k).toNat = u.toNat / 2 ^ k) ∧
  (∀ n d : Word, d ≠ 0 → (udiv32 n d).toNat = n.toNat / d.toNat)

/-! ### Loading commands -/

/-- R100: NOP has no effect, halted or not. -/
def Obligations.NopHasNoEffect : Prop :=
  encode .nop = 0x00 ∧ (∀ s : State, exec .nop s = .next s) ∧
  (∀ (s : State) (p : Ports) (rest : List HostAction), Presents s 0x00 p rest → step s = .next (accepted s p rest))

/-- R102: LOAD_CAL writes all of CAL from CAL_IN and sets CAL_VALID, or faults with CAL_RELOAD; every value is accepted. -/
def Obligations.LoadCalWritesCalibrationOnce : Prop :=
  encode .loadCal = 0x01 ∧
  (∀ s : State, s.cal = none → exec .loadCal s = .next { s with cal := some s.ports.calIn }) ∧
  (∀ (s : State) (c : CalibrationSet), s.cal = some c → exec .loadCal s = .next { s with fault := some .calReload }) ∧
  (∀ s t : State, s.cal = none → exec .loadCal s = .next t → t.status = s.status ||| 0x0001) ∧
  (∀ (c : CalibrationSet) (r : RawSample) (tf : Word), c.dig_P1 = 0 → compPOf c r tf = 0) ∧
  (∀ p : Ports, p.calIn.dig_T3 = -1000 → ∃ t c, exec .loadCal { State.reset with ports := p } = .next t ∧
    t.status = 0x0001 ∧ t.cal = some c ∧ c.dig_T3 = -1000)

/-- R105: LOAD_SAMPLE writes SAMPLE from SAMPLE_IN, sets SAMPLE_VALID and makes everything derived from the previous sample
stale. It needs nothing. -/
def Obligations.LoadSampleMakesResultsStale : Prop :=
  encode .loadSample = 0x02 ∧
  (∀ s : State, exec .loadSample s = .next { s with
    sample := some s.ports.sampleIn, tFine := none, tOut := none, pOut := none, hOut := none }) ∧
  (∀ s t : State, exec .loadSample s = .next t → t.status = (s.status &&& 0xFFC3) ||| 0x0002) ∧
  (∀ s t : State, s.status = 0x003F → exec .loadSample s = .next t → t.status = 0x0003)

/-! ### Temperature -/

/-- R121: `FineTemp` on the registers is the integer formula, wrapped step by step; where the rule says "no wrap" there is
none. A product of exactly -2^31 is its own residue, so the last clause says for which products the wrap changes the value. -/
def Obligations.FineTempIsTheIntegerFormula : Prop :=
  ∀ (adc : BitVec 20) (T1 T2 T3 : BitVec 16),
    let a1 : Int := (adc.toNat : Int) / 8 - 2 * T1.toNat
    let tmp : Int := (adc.toNat : Int) / 16 - T1.toNat
    let var1 := Reference.shr (Reference.s32 (a1 * T2.toInt)) 11
    let var2 := Reference.shr (Reference.s32 (Reference.shr (Reference.s32 (tmp * tmp)) 12 * T3.toInt)) 14
    (fineTemp (zext32 adc) (zext32 T1) (sext32 T2) (sext32 T3)).toInt = Reference.s32 (var1 + var2) ∧
    -131070 ≤ a1 ∧ a1 ≤ 131071 ∧ -65535 ≤ tmp ∧ tmp ≤ 65535 ∧
    (Reference.s32 (tmp * tmp) ≠ tmp * tmp ↔ 46341 ≤ |tmp|) ∧
    (Reference.s32 (a1 * T2.toInt) ≠ a1 * T2.toInt ↔ 2 ^ 31 ≤ a1 * T2.toInt ∨ a1 * T2.toInt < -2 ^ 31)

/-- R123: `CompT` is floor((5 * t_fine + 128) / 256) in the range the rule gives, and the wrapped formula everywhere. -/
def Obligations.CompTFloorsTowardMinusInfinity : Prop :=
  (∀ tf : Word, (compT tf).toInt = Reference.s32 (Reference.s32 (tf.toInt * 5) + 128) / 256) ∧
  (∀ tf : Word, -429496755 ≤ tf.toInt → tf.toInt ≤ 429496703 → (compT tf).toInt = (5 * tf.toInt + 128) / 256) ∧
  (∀ x : Int, (-2 ^ 31 ≤ 5 * x + 128 ∧ 5 * x + 128 < 2 ^ 31) ↔ (-429496755 ≤ x ∧ x ≤ 429496703))

/-- 41_temperature.md section 1: for the example constants no intermediate wraps over the operating range of counts. Each of
the products and sums of R121, computed exactly, is an s32, and `t_fine` is the exact formula. -/
def Obligations.ExampleConstantsDoNotWrap : Prop :=
  ∀ adc : BitVec 20, 313696 ≤ adc.toNat → adc.toNat ≤ 712487 →
    let a1 : Int := (adc.toNat : Int) / 8 - 2 * 27504
    let tmp : Int := (adc.toNat : Int) / 16 - 27504
    let m1 := a1 * 26435
    let m3 := tmp * tmp / 4096 * (-1000)
    let sum := m1 / 2048 + m3 / 16384
    (-2 ^ 31 ≤ a1 ∧ a1 < 2 ^ 31) ∧ (-2 ^ 31 ≤ m1 ∧ m1 < 2 ^ 31) ∧ (-2 ^ 31 ≤ tmp ∧ tmp < 2 ^ 31) ∧ tmp * tmp < 2 ^ 31 ∧
    (-2 ^ 31 ≤ m3 ∧ m3 < 2 ^ 31) ∧ (-2 ^ 31 ≤ sum ∧ sum < 2 ^ 31) ∧
    (fineTemp (zext32 adc) 27504 26435 (-1000)).toInt =
      (((adc.toNat : Int) / 8 - 2 * 27504) * 26435) / 2048 +
      ((((adc.toNat : Int) / 16 - 27504) * ((adc.toNat : Int) / 16 - 27504)) / 4096 * (-1000)) / 16384

/-- R125: COMP_T, its two faults in order, its two results, its STATUS bits, and its corner cases. -/
def Obligations.CompTComputesFineTemperature : Prop :=
  encode .compT = 0x03 ∧
  (∀ s : State, s.cal = none → exec .compT s = .next { s with fault := some .noCal }) ∧
  (∀ (s : State) (c : CalibrationSet), s.cal = some c → s.sample = none →
    exec .compT s = .next { s with fault := some .noSample }) ∧
  (∀ (s : State) (c : CalibrationSet) (r : RawSample), s.cal = some c → s.sample = some r →
    ∃ tf t, tf = fineTemp (zext32 r.adc_T) (zext32 c.dig_T1) (sext32 c.dig_T2) (sext32 c.dig_T3) ∧
      exec .compT s = .next t ∧ t = { s with tFine := some tf, tOut := some (compT tf) } ∧
      t.status = s.status ||| 0x000C ∧
      (c.dig_T2 = 0 → c.dig_T3 = 0 → t.tFine = some 0 ∧ t.tOut = some 0) ∧
      (Coherent s → s.tfineValid = true → t.tFine = s.tFine)) ∧
  (∀ s t : State, exec .compT s = .next t → exec .compT t = .next t) ∧
  asr ((asr 519888 3 - shl 27504 1) * 26435) 11 = 128793 ∧
  asr (asr ((asr 519888 4 - 27504) * (asr 519888 4 - 27504)) 12 * (-1000)) 14 = -371 ∧
  fineTemp 519888 27504 26435 (-1000) = 128422 ∧ compT 128422 = 2508

/-! ### Pressure -/

/-- R141: the two branches of `PDiv`, where they differ, and where doubling wraps. -/
def Obligations.PressureDivisionBranches : Prop :=
  ∀ p d : Word, d ≠ 0 →
    (p.toNat < 2 ^ 31 → (pdiv p d).toNat = p.toNat * 2 / d.toNat) ∧
    (2 ^ 31 ≤ p.toNat → (pdiv p d).toNat = (p.toNat / d.toNat * 2) % 2 ^ 32) ∧
    (p.toNat < 2 ^ 31 → d.toNat ≤ 2 * (p.toNat % d.toNat) → (pdiv p d).toNat = p.toNat / d.toNat * 2 + 1) ∧
    (2 ^ 31 ≤ p.toNat → (2 ^ 32 ≤ p.toNat / d.toNat * 2 ↔ d = 1))

/-- R142: `CompP` on the registers is the integer formula with each value wrapped as its type says, and `1048576 - adc_P`
does not wrap. -/
def Obligations.CompPIsTheIntegerFormula : Prop :=
  (∀ (c : CalibrationSet) (r : RawSample) (tf : Word),
    ((compPOf c r tf).toNat : Int) =
      Reference.compP r.adc_P.toNat tf.toInt c.dig_P1.toNat c.dig_P2.toInt c.dig_P3.toInt c.dig_P4.toInt c.dig_P5.toInt
        c.dig_P6.toInt c.dig_P7.toInt c.dig_P8.toInt c.dig_P9.toInt) ∧
  (∀ adc : BitVec 20, (1048576 - zext32 adc : Word).toInt = 1048576 - adc.toNat ∧
    1 ≤ (1048576 - zext32 adc : Word).toInt ∧ (1048576 - zext32 adc : Word).toInt ≤ 1048576)

/-- R143, R144: when the divisor is zero and what follows, the divisor's range, and the quotient of a negative one. -/
def Obligations.PressureDivisorRangeAndZeroGuard : Prop :=
  ∀ (adc : BitVec 20) (tf : Word) (P1 P2 P3 P4 P5 P6 P7 P8 P9 : BitVec 16),
    let v : Int := (pressureScale tf (sext32 P2) (sext32 P3)).toInt
    let product : Int := (32768 + v) * P1.toNat
    let d := pressureDivisor tf (zext32 P1) (sext32 P2) (sext32 P3)
    v ≤ 8191 ∧ -8192 ≤ v ∧ 0 ≤ product ∧ product ≤ 2684248065 ∧
    (d = 0 ↔ P1 = 0 ∨ (P1 = 1 ∧ v < 0)) ∧
    (d = 0 ↔ product ≤ 32767) ∧
    (32768 ≤ product → product < 2 ^ 31 → 1 ≤ d.toInt ∧ d.toInt ≤ 65535) ∧
    (2 ^ 31 ≤ product → d.toInt < 0 ∧ 52431 ≤ P1.toNat ∧ 2 ^ 31 ≤ (asU32 d).toNat ∧ ∀ p, (pdiv p (asU32 d)).toNat ≤ 2) ∧
    (d = 0 → compP (zext32 adc) tf (zext32 P1) (sext32 P2) (sext32 P3) (sext32 P4) (sext32 P5) (sext32 P6) (sext32 P7)
      (sext32 P8) (sext32 P9) = 0)

/-- R147: the dividend at exactly 2^31 cannot be reached; the nearest ones are those of the rule. -/
def Obligations.DividendAtThresholdIsUnreachable : Prop :=
  (∀ (adc : BitVec 20) (tf : Word) (P4 P5 P6 : BitVec 16),
    let k : Int := (1048576 - adc.toNat) - (asr (pressureVar2 tf (sext32 P4) (sext32 P5) (sext32 P6)) 12).toInt
    let p := pressureDividend (zext32 adc) tf (sext32 P4) (sext32 P5) (sext32 P6)
    (p.toNat : Int) = (k * 3125) % 2 ^ 32 ∧ -2 ^ 19 + 2 ≤ k ∧ k ≤ 2 ^ 20 + 2 ^ 19 ∧
    p.toNat ≠ 2 ^ 31 ∧ (p.toNat < 2 ^ 31 → p.toNat ≤ 2147481250) ∧ (2 ^ 31 ≤ p.toNat → 2147484375 ≤ p.toNat)) ∧
  pressureDividend (zext32 (315699 : BitVec 20)) 128422 2855 140 (-7) = 2147481250 ∧
  pressureDividend (zext32 (315698 : BitVec 20)) 128422 2855 140 (-7) = 2147484375

/-- R150: COMP_P, its three faults in order, its result, its STATUS bit, and its corner cases. -/
def Obligations.CompPComputesPressure : Prop :=
  encode .compP = 0x04 ∧
  (∀ s : State, s.cal = none → exec .compP s = .next { s with fault := some .noCal }) ∧
  (∀ (s : State) (c : CalibrationSet), s.cal = some c → s.sample = none →
    exec .compP s = .next { s with fault := some .noSample }) ∧
  (∀ (s : State) (c : CalibrationSet) (r : RawSample), s.cal = some c → s.sample = some r → s.tFine = none →
    exec .compP s = .next { s with fault := some .staleTfine }) ∧
  (∀ (s : State) (c : CalibrationSet) (r : RawSample) (tf : Word), s.cal = some c → s.sample = some r →
    s.tFine = some tf → ∃ t, exec .compP s = .next t ∧
      t = { s with pOut := some (compP (zext32 r.adc_P) tf (zext32 c.dig_P1) (sext32 c.dig_P2) (sext32 c.dig_P3)
        (sext32 c.dig_P4) (sext32 c.dig_P5) (sext32 c.dig_P6) (sext32 c.dig_P7) (sext32 c.dig_P8) (sext32 c.dig_P9)) } ∧
      t.status = s.status ||| 0x0010 ∧
      (pressureDivisor tf (zext32 c.dig_P1) (sext32 c.dig_P2) (sext32 c.dig_P3) = 0 → t.pOut = some 0)) ∧
  (∀ s t : State, exec .compP s = .next t → exec .compP t = .next t) ∧
  (∀ (s t : State) (h : Option Word), exec .compP s = .next t →
    exec .compP { s with hOut := h } = .next { t with hOut := h }) ∧
  (∀ p : Word, 2 ^ 32 ≤ (lsr p 3).toNat * (lsr p 3).toNat ↔ 2 ^ 19 ≤ p.toNat) ∧
  compPOf setA sampleA 128422 = 100656 ∧
  (2 ^ 31 ≤ (pressureDividend 0 128422 (digP4 setA) (digP5 setA) (digP6 setA)).toNat) ∧
  (2 ^ 31 ≤ (pressureDividend 0xFFFFF 128422 (digP4 setA) (digP5 setA) (digP6 setA)).toNat)

/-! ### Humidity -/

/-- R171: `CompH` on the registers is the integer formula with each value wrapped as its type says. -/
def Obligations.CompHIsTheIntegerFormula : Prop :=
  (∀ (c : CalibrationSet) (r : RawSample) (tf : Word),
    ((compHOf c r tf).toNat : Int) =
      Reference.compH r.adc_H.toNat tf.toInt c.dig_H1.toNat c.dig_H2.toInt c.dig_H3.toNat c.dig_H4.toInt c.dig_H5.toInt
        c.dig_H6.toInt) ∧
  (∀ adc : BitVec 16, (shl (zext32 adc) 14).toInt = (adc.toNat : Int) * 2 ^ 14 ∧ adc.toNat * 2 ^ 14 ≤ 1073725440) ∧
  (∀ H4 : BitVec 16, (shl (sext32 H4) 20).toInt ≠ H4.toInt * 2 ^ 20 ↔ (2048 ≤ H4.toInt ∨ H4.toInt < -2048))

/-- R172, R173: the clamp after the expression and before the shift, in either order of its bounds, and the output range. -/
def Obligations.HumidityClampAndRange : Prop :=
  ∀ adcH tf H1 H2 H3 H4 H5 H6 : Word,
    let v := (humidityRaw adcH tf H1 H2 H3 H4 H5 H6).toInt
    let h := compH adcH tf H1 H2 H3 H4 H5 H6
    (h.toNat : Int) = max 0 (min v 419430400) / 4096 ∧ max 0 (min v 419430400) = min (max 0 v) 419430400 ∧
    h.toNat ≤ 102400 ∧ h.extractLsb' 17 15 = 0 ∧ (419430400 ≤ v → h = 102400) ∧ (v ≤ 0 → h = 0)

/-- R180: COMP_H, its three faults in order, its result, its STATUS bit, and its corner cases. -/
def Obligations.CompHComputesHumidity : Prop :=
  encode .compH = 0x05 ∧
  (∀ s : State, s.cal = none → exec .compH s = .next { s with fault := some .noCal }) ∧
  (∀ (s : State) (c : CalibrationSet), s.cal = some c → s.sample = none →
    exec .compH s = .next { s with fault := some .noSample }) ∧
  (∀ (s : State) (c : CalibrationSet) (r : RawSample), s.cal = some c → s.sample = some r → s.tFine = none →
    exec .compH s = .next { s with fault := some .staleTfine }) ∧
  (∀ (s : State) (c : CalibrationSet) (r : RawSample) (tf : Word), s.cal = some c → s.sample = some r →
    s.tFine = some tf → ∃ t v, exec .compH s = .next t ∧
      t = { s with hOut := some (compH (zext32 r.adc_H) tf (zext32 c.dig_H1) (sext32 c.dig_H2) (zext32 c.dig_H3)
        (sext32 c.dig_H4) (sext32 c.dig_H5) (sext32 c.dig_H6)) } ∧
      t.status = s.status ||| 0x0020 ∧
      v = (humidityRaw (zext32 r.adc_H) tf (zext32 c.dig_H1) (sext32 c.dig_H2) (zext32 c.dig_H3) (sext32 c.dig_H4)
        (sext32 c.dig_H5) (sext32 c.dig_H6)).toInt ∧
      (v ≤ 0 → t.hOut = some 0) ∧ (419430400 ≤ v → t.hOut = some 102400) ∧
      (c.dig_H1 = 0 → c.dig_H2 = 0 → c.dig_H3 = 0 → c.dig_H4 = 0 → c.dig_H5 = 0 → c.dig_H6 = 0 → t.hOut = some 0)) ∧
  (∀ (s t : State) (x : Option Word), exec .compH s = .next t →
    exec .compH { s with pOut := x } = .next { t with pOut := x }) ∧
  humidityRaw 27000 128422 75 362 0 313 50 30 = 160525758 ∧ compHOf setA sampleA 128422 = 39190

/-! ### The whole cycle, order, hazards -/

/-- R190, R191: COMP_ALL, its two faults, its results, and that it equals COMP_T then COMP_P and COMP_H in either order. -/
def Obligations.CompAllEqualsTheThreeUnitsInOrder : Prop :=
  encode .compAll = 0x06 ∧
  (∀ s : State, s.cal = none → exec .compAll s = .next { s with fault := some .noCal }) ∧
  (∀ (s : State) (c : CalibrationSet), s.cal = some c → s.sample = none →
    exec .compAll s = .next { s with fault := some .noSample }) ∧
  (∀ (s : State) (c : CalibrationSet) (r : RawSample), s.cal = some c → s.sample = some r →
    ∃ tf t, tf = fineTempOf c r ∧ exec .compAll s = .next t ∧
      t = { s with
        tFine := some tf, tOut := some (compT tf), pOut := some (compPOf c r tf), hOut := some (compHOf c r tf) } ∧
      t.status = s.status ||| 0x003C) ∧
  (∀ (s t u w : State) (p q1 q2 q3 : Ports),
    RunsTo 1 { s with pending := [.command 0x06 p] } t →
    RunsTo 3 { s with pending := [.command 0x03 q1, .command 0x04 q2, .command 0x05 q3] } u →
    RunsTo 3 { s with pending := [.command 0x03 q1, .command 0x05 q2, .command 0x04 q3] } w →
    SameRegisters t u ∧ SameRegisters t w) ∧
  (∀ p q : Ports, p.sampleIn = sampleA → ∃ t,
    RunsTo 2 { State.reset with cal := some setA, pending := [.command 0x02 p, .command 0x06 q] } t ∧
    readingOf t = { tFine := some 128422, tOut := some 2508, pOut := some 100656, hOut := some 39190 } ∧
    t.status = 0x003F)

/-- R192: identical CAL and SAMPLE give identical results, whatever else the two states hold; for COMP_T, COMP_P and COMP_H
alone too. -/
def Obligations.CompensationIsDeterministic : Prop :=
  ∀ (s s' : State) (c : CalibrationSet) (r : RawSample), s.cal = some c → s'.cal = some c → s.sample = some r →
    s'.sample = some r →
    (∀ t t', exec .compAll s = .next t → exec .compAll s' = .next t' → readingOf t = readingOf t') ∧
    (∀ t t', exec .compT s = .next t → exec .compT s' = .next t' → t.tFine = t'.tFine ∧ t.tOut = t'.tOut) ∧
    (Coherent s → Coherent s' → s.tfineValid = true → s'.tfineValid = true →
      (∀ t t', exec .compP s = .next t → exec .compP s' = .next t' → t.pOut = t'.pOut) ∧
      (∀ t t', exec .compH s = .next t → exec .compH s' = .next t' → t.hOut = t'.hOut))

/-- 44_sequence.md: with ADC_P and ADC_H held constant, a change of ADC_T can change T_FINE, P_OUT and H_OUT. -/
def Obligations.FineTemperatureDrivesTheOtherResults : Prop :=
  ∃ (c : CalibrationSet) (r r' : RawSample), r.adc_P = r'.adc_P ∧ r.adc_H = r'.adc_H ∧
    fineTempOf c r ≠ fineTempOf c r' ∧ compPOf c r (fineTempOf c r) ≠ compPOf c r' (fineTempOf c r') ∧
    compHOf c r (fineTempOf c r) ≠ compHOf c r' (fineTempOf c r')

/-- R240: after LOAD_SAMPLE, TFINE_VALID stays 0 until COMP_T or COMP_ALL, and COMP_P or COMP_H in that window faults with
STALE_TFINE; no number of NOPs lifts the hazard, a COMP_T does. -/
def Obligations.StaleFineTemperatureIsDetected : Prop :=
  (∀ (acts rest : List HostAction) (s : State) (p : Ports), Presents s 0x02 p (acts ++ rest) → s.halted = false →
    (∀ a ∈ acts, NotCommand [0x03, 0x06] a) → ∃ t, RunsTo (acts.length + 1) s t ∧ t.tfineValid = false) ∧
  (∀ (acts rest : List HostAction) (s : State) (p q : Ports) (cmd : Byte), cmd = 0x04 ∨ cmd = 0x05 →
    Presents s 0x02 p (acts ++ .command cmd q :: rest) → s.halted = false → s.calValid = true →
    (∀ a ∈ acts, NopOrRead a) → ∃ t, RunsTo (acts.length + 2) s t ∧ t.fault = some .staleTfine) ∧
  (∀ (s : State) (p q : Ports) (rest : List HostAction) (cmd : Byte), cmd = 0x03 ∨ cmd = 0x06 →
    Presents s 0x02 p (.command cmd q :: rest) → s.halted = false → s.calValid = true →
    ∃ t, RunsTo 2 s t ∧ t.tfineValid = true ∧ t.halted = false)

/-- R241: no other ordering hazard. COMP_P and COMP_H commute, repeating a compute command is harmless, LOAD_SAMPLE between
COMP_T and COMP_P is the stale hazard again, a second LOAD_CAL faults. -/
def Obligations.NoOtherOrderingHazard : Prop :=
  (∀ (s t u : State) (p q : Ports), RunsTo 2 { s with pending := [.command 0x04 p, .command 0x05 q] } t →
    RunsTo 2 { s with pending := [.command 0x05 p, .command 0x04 q] } u → SameRegisters t u) ∧
  (∀ (i : Instr) (s t : State), i ∈ [Instr.compT, .compP, .compH, .compAll] → exec i s = .next t → exec i t = .next t) ∧
  (∀ s t u : State, s.calValid = true → exec .loadSample s = .next t → exec .compP t = .next u →
    u = { t with fault := some .staleTfine }) ∧
  (∀ s : State, s.calValid = true → exec .loadCal s = .next { s with fault := some .calReload })

/-! ### Headlines -/

/-- The validity bits keep their promise: every step, whatever the host presents, keeps `Coherent` (a valid register is the
result of its unit on the current CAL and SAMPLE). The invariant is the model's wording of 10_state.md section 7. -/
def Obligations.ValidRegistersStayCurrent : Prop :=
  ∀ s t : State, Coherent s → step s = .next t → Coherent t

/-- The reset state is coherent. -/
def Obligations.ResetStateIsCoherent : Prop := Coherent State.reset

/-- The session of 70_reset_and_hazards.md section 2, from any state: reset, LOAD_CAL once, then any number of reading cycles
in any of the three forms, with any host reads between the commands. Such a run succeeds, and after its last cycle the reading
is complete and is the pure function of the calibration and of the last sample; and the reads of step 4(d) after it return the
three outputs. That what a read returns is kept in `received`, newest first, is the model's choice (log entry 6). -/
def Obligations.RequiredSessionOrderGivesTheReading : Prop :=
  ∀ (s : State) (acts : List HostAction) (p0 : Ports) (cycles : List (ComputeForm × Ports × Ports)) (form : ComputeForm)
    (p q : Ports), (∀ a ∈ acts, NoReset a) → commandsOf acts = sessionCommands p0 cycles form p q →
    (∃ t, IsRun s acts t ∧ Succeeds t ∧ t.cal = some p0.calIn ∧ t.sample = some p.sampleIn ∧
      readingOf t = completeReading p0.calIn p.sampleIn) ∧
    ∃ u, IsRun s (acts ++ outputReads) u ∧ Succeeds u ∧
      u.received.take 3 =
        [compHOf p0.calIn p.sampleIn (fineTempOf p0.calIn p.sampleIn),
          compPOf p0.calIn p.sampleIn (fineTempOf p0.calIn p.sampleIn), compT (fineTempOf p0.calIn p.sampleIn)]
end

