-- ==== Sys2Proof/Laws/Arith.lean ====
section
/-! SUPPORT. Facts about the exact-integer reference's two wraps, to carry the datapath's operations over to it. -/

namespace Sys2Proof.Reference

/-- The signed wrap of R15 is the balanced remainder that core's `BitVec.toInt` lemmas speak of. -/
theorem s32_eq_bmod (x : Int) : s32 x = x.bmod (2 ^ 32) := by
  unfold s32 Int.bmod
  norm_num

theorem s32_range (x : Int) : -2 ^ 31 ≤ s32 x ∧ s32 x < 2 ^ 31 := by
  unfold s32
  split <;> omega

/-- A value in the s32 range is its own wrap. -/
theorem s32_of_range {x : Int} (h : -2 ^ 31 ≤ x) (h' : x < 2 ^ 31) : s32 x = x := by
  unfold s32
  split <;> omega

theorem s32_idem (x : Int) : s32 (s32 x) = s32 x := s32_of_range (s32_range x).1 (s32_range x).2

theorem s32_emod (x : Int) : s32 x % 2 ^ 32 = x % 2 ^ 32 := by
  unfold s32
  split <;> omega

theorem u32_range (x : Int) : 0 ≤ u32 x ∧ u32 x < 2 ^ 32 := by
  unfold u32
  omega

end Sys2Proof.Reference
end

