-- ==== Sys2Proof/Laws/State.lean ====
section
/-! SUPPORT. What each update of the state leaves in each field: one lemma per field per update, true by `rfl`. Later proofs
use these and unfold no record update. -/

namespace Sys2Proof.Machine

/-! ### `State.writeCal` (R102) -/

@[simp] theorem State.writeCal_cal (s : State) (c : CalibrationSet) : (s.writeCal c).cal = some c := rfl
@[simp] theorem State.writeCal_sample (s : State) (c : CalibrationSet) : (s.writeCal c).sample = s.sample := rfl
@[simp] theorem State.writeCal_tFine (s : State) (c : CalibrationSet) : (s.writeCal c).tFine = s.tFine := rfl
@[simp] theorem State.writeCal_tOut (s : State) (c : CalibrationSet) : (s.writeCal c).tOut = s.tOut := rfl
@[simp] theorem State.writeCal_pOut (s : State) (c : CalibrationSet) : (s.writeCal c).pOut = s.pOut := rfl
@[simp] theorem State.writeCal_hOut (s : State) (c : CalibrationSet) : (s.writeCal c).hOut = s.hOut := rfl
@[simp] theorem State.writeCal_fault (s : State) (c : CalibrationSet) : (s.writeCal c).fault = s.fault := rfl
@[simp] theorem State.writeCal_ports (s : State) (c : CalibrationSet) : (s.writeCal c).ports = s.ports := rfl
@[simp] theorem State.writeCal_pending (s : State) (c : CalibrationSet) : (s.writeCal c).pending = s.pending := rfl
@[simp] theorem State.writeCal_received (s : State) (c : CalibrationSet) : (s.writeCal c).received = s.received := rfl
@[simp] theorem State.writeCal_drawIndex (s : State) (c : CalibrationSet) : (s.writeCal c).drawIndex = s.drawIndex := rfl

/-! ### `State.writeSample` (R105) -/

@[simp] theorem State.writeSample_cal (s : State) (r : RawSample) : (s.writeSample r).cal = s.cal := rfl
@[simp] theorem State.writeSample_sample (s : State) (r : RawSample) : (s.writeSample r).sample = some r := rfl
@[simp] theorem State.writeSample_tFine (s : State) (r : RawSample) : (s.writeSample r).tFine = none := rfl
@[simp] theorem State.writeSample_tOut (s : State) (r : RawSample) : (s.writeSample r).tOut = none := rfl
@[simp] theorem State.writeSample_pOut (s : State) (r : RawSample) : (s.writeSample r).pOut = none := rfl
@[simp] theorem State.writeSample_hOut (s : State) (r : RawSample) : (s.writeSample r).hOut = none := rfl
@[simp] theorem State.writeSample_fault (s : State) (r : RawSample) : (s.writeSample r).fault = s.fault := rfl
@[simp] theorem State.writeSample_ports (s : State) (r : RawSample) : (s.writeSample r).ports = s.ports := rfl
@[simp] theorem State.writeSample_pending (s : State) (r : RawSample) : (s.writeSample r).pending = s.pending := rfl
@[simp] theorem State.writeSample_received (s : State) (r : RawSample) : (s.writeSample r).received = s.received := rfl
@[simp] theorem State.writeSample_drawIndex (s : State) (r : RawSample) : (s.writeSample r).drawIndex = s.drawIndex := rfl

/-! ### `State.writeTFine` (R125) -/

@[simp] theorem State.writeTFine_cal (s : State) (v : Word) : (s.writeTFine v).cal = s.cal := rfl
@[simp] theorem State.writeTFine_sample (s : State) (v : Word) : (s.writeTFine v).sample = s.sample := rfl
@[simp] theorem State.writeTFine_tFine (s : State) (v : Word) : (s.writeTFine v).tFine = some v := rfl
@[simp] theorem State.writeTFine_tOut (s : State) (v : Word) : (s.writeTFine v).tOut = s.tOut := rfl
@[simp] theorem State.writeTFine_pOut (s : State) (v : Word) : (s.writeTFine v).pOut = s.pOut := rfl
@[simp] theorem State.writeTFine_hOut (s : State) (v : Word) : (s.writeTFine v).hOut = s.hOut := rfl
@[simp] theorem State.writeTFine_fault (s : State) (v : Word) : (s.writeTFine v).fault = s.fault := rfl
@[simp] theorem State.writeTFine_ports (s : State) (v : Word) : (s.writeTFine v).ports = s.ports := rfl
@[simp] theorem State.writeTFine_pending (s : State) (v : Word) : (s.writeTFine v).pending = s.pending := rfl
@[simp] theorem State.writeTFine_received (s : State) (v : Word) : (s.writeTFine v).received = s.received := rfl
@[simp] theorem State.writeTFine_drawIndex (s : State) (v : Word) : (s.writeTFine v).drawIndex = s.drawIndex := rfl

/-! ### `State.writeTOut` (R125) -/

@[simp] theorem State.writeTOut_cal (s : State) (v : Word) : (s.writeTOut v).cal = s.cal := rfl
@[simp] theorem State.writeTOut_sample (s : State) (v : Word) : (s.writeTOut v).sample = s.sample := rfl
@[simp] theorem State.writeTOut_tFine (s : State) (v : Word) : (s.writeTOut v).tFine = s.tFine := rfl
@[simp] theorem State.writeTOut_tOut (s : State) (v : Word) : (s.writeTOut v).tOut = some v := rfl
@[simp] theorem State.writeTOut_pOut (s : State) (v : Word) : (s.writeTOut v).pOut = s.pOut := rfl
@[simp] theorem State.writeTOut_hOut (s : State) (v : Word) : (s.writeTOut v).hOut = s.hOut := rfl
@[simp] theorem State.writeTOut_fault (s : State) (v : Word) : (s.writeTOut v).fault = s.fault := rfl
@[simp] theorem State.writeTOut_ports (s : State) (v : Word) : (s.writeTOut v).ports = s.ports := rfl
@[simp] theorem State.writeTOut_pending (s : State) (v : Word) : (s.writeTOut v).pending = s.pending := rfl
@[simp] theorem State.writeTOut_received (s : State) (v : Word) : (s.writeTOut v).received = s.received := rfl
@[simp] theorem State.writeTOut_drawIndex (s : State) (v : Word) : (s.writeTOut v).drawIndex = s.drawIndex := rfl

/-! ### `State.writePOut` (R150) -/

@[simp] theorem State.writePOut_cal (s : State) (v : Word) : (s.writePOut v).cal = s.cal := rfl
@[simp] theorem State.writePOut_sample (s : State) (v : Word) : (s.writePOut v).sample = s.sample := rfl
@[simp] theorem State.writePOut_tFine (s : State) (v : Word) : (s.writePOut v).tFine = s.tFine := rfl
@[simp] theorem State.writePOut_tOut (s : State) (v : Word) : (s.writePOut v).tOut = s.tOut := rfl
@[simp] theorem State.writePOut_pOut (s : State) (v : Word) : (s.writePOut v).pOut = some v := rfl
@[simp] theorem State.writePOut_hOut (s : State) (v : Word) : (s.writePOut v).hOut = s.hOut := rfl
@[simp] theorem State.writePOut_fault (s : State) (v : Word) : (s.writePOut v).fault = s.fault := rfl
@[simp] theorem State.writePOut_ports (s : State) (v : Word) : (s.writePOut v).ports = s.ports := rfl
@[simp] theorem State.writePOut_pending (s : State) (v : Word) : (s.writePOut v).pending = s.pending := rfl
@[simp] theorem State.writePOut_received (s : State) (v : Word) : (s.writePOut v).received = s.received := rfl
@[simp] theorem State.writePOut_drawIndex (s : State) (v : Word) : (s.writePOut v).drawIndex = s.drawIndex := rfl

/-! ### `State.writeHOut` (R180) -/

@[simp] theorem State.writeHOut_cal (s : State) (v : Word) : (s.writeHOut v).cal = s.cal := rfl
@[simp] theorem State.writeHOut_sample (s : State) (v : Word) : (s.writeHOut v).sample = s.sample := rfl
@[simp] theorem State.writeHOut_tFine (s : State) (v : Word) : (s.writeHOut v).tFine = s.tFine := rfl
@[simp] theorem State.writeHOut_tOut (s : State) (v : Word) : (s.writeHOut v).tOut = s.tOut := rfl
@[simp] theorem State.writeHOut_pOut (s : State) (v : Word) : (s.writeHOut v).pOut = s.pOut := rfl
@[simp] theorem State.writeHOut_hOut (s : State) (v : Word) : (s.writeHOut v).hOut = some v := rfl
@[simp] theorem State.writeHOut_fault (s : State) (v : Word) : (s.writeHOut v).fault = s.fault := rfl
@[simp] theorem State.writeHOut_ports (s : State) (v : Word) : (s.writeHOut v).ports = s.ports := rfl
@[simp] theorem State.writeHOut_pending (s : State) (v : Word) : (s.writeHOut v).pending = s.pending := rfl
@[simp] theorem State.writeHOut_received (s : State) (v : Word) : (s.writeHOut v).received = s.received := rfl
@[simp] theorem State.writeHOut_drawIndex (s : State) (v : Word) : (s.writeHOut v).drawIndex = s.drawIndex := rfl

/-! ### `State.writeTemperature` (R125) -/

@[simp] theorem State.writeTemperature_cal (s : State) (tf : Word) : (s.writeTemperature tf).cal = s.cal := rfl
@[simp] theorem State.writeTemperature_sample (s : State) (tf : Word) : (s.writeTemperature tf).sample = s.sample := rfl
@[simp] theorem State.writeTemperature_tFine (s : State) (tf : Word) : (s.writeTemperature tf).tFine = some tf := rfl
@[simp] theorem State.writeTemperature_tOut (s : State) (tf : Word) : (s.writeTemperature tf).tOut = some (compT tf) := rfl
@[simp] theorem State.writeTemperature_pOut (s : State) (tf : Word) : (s.writeTemperature tf).pOut = s.pOut := rfl
@[simp] theorem State.writeTemperature_hOut (s : State) (tf : Word) : (s.writeTemperature tf).hOut = s.hOut := rfl
@[simp] theorem State.writeTemperature_fault (s : State) (tf : Word) : (s.writeTemperature tf).fault = s.fault := rfl
@[simp] theorem State.writeTemperature_ports (s : State) (tf : Word) : (s.writeTemperature tf).ports = s.ports := rfl
@[simp] theorem State.writeTemperature_pending (s : State) (tf : Word) : (s.writeTemperature tf).pending = s.pending := rfl
@[simp] theorem State.writeTemperature_received (s : State) (tf : Word) : (s.writeTemperature tf).received = s.received := rfl
@[simp] theorem State.writeTemperature_drawIndex (s : State) (tf : Word) : (s.writeTemperature tf).drawIndex = s.drawIndex := rfl

/-! ### `State.raiseFault` (R203) -/

@[simp] theorem State.raiseFault_cal (s : State) (code : FaultCode) : (s.raiseFault code).cal = s.cal := rfl
@[simp] theorem State.raiseFault_sample (s : State) (code : FaultCode) : (s.raiseFault code).sample = s.sample := rfl
@[simp] theorem State.raiseFault_tFine (s : State) (code : FaultCode) : (s.raiseFault code).tFine = s.tFine := rfl
@[simp] theorem State.raiseFault_tOut (s : State) (code : FaultCode) : (s.raiseFault code).tOut = s.tOut := rfl
@[simp] theorem State.raiseFault_pOut (s : State) (code : FaultCode) : (s.raiseFault code).pOut = s.pOut := rfl
@[simp] theorem State.raiseFault_hOut (s : State) (code : FaultCode) : (s.raiseFault code).hOut = s.hOut := rfl
@[simp] theorem State.raiseFault_fault (s : State) (code : FaultCode) : (s.raiseFault code).fault = some code := rfl
@[simp] theorem State.raiseFault_ports (s : State) (code : FaultCode) : (s.raiseFault code).ports = s.ports := rfl
@[simp] theorem State.raiseFault_pending (s : State) (code : FaultCode) : (s.raiseFault code).pending = s.pending := rfl
@[simp] theorem State.raiseFault_received (s : State) (code : FaultCode) : (s.raiseFault code).received = s.received := rfl
@[simp] theorem State.raiseFault_drawIndex (s : State) (code : FaultCode) : (s.raiseFault code).drawIndex = s.drawIndex := rfl

/-! ### `State.resetBlock` (R230) -/

@[simp] theorem State.resetBlock_cal (s : State) : s.resetBlock.cal = none := rfl
@[simp] theorem State.resetBlock_sample (s : State) : s.resetBlock.sample = none := rfl
@[simp] theorem State.resetBlock_tFine (s : State) : s.resetBlock.tFine = none := rfl
@[simp] theorem State.resetBlock_tOut (s : State) : s.resetBlock.tOut = none := rfl
@[simp] theorem State.resetBlock_pOut (s : State) : s.resetBlock.pOut = none := rfl
@[simp] theorem State.resetBlock_hOut (s : State) : s.resetBlock.hOut = none := rfl
@[simp] theorem State.resetBlock_fault (s : State) : s.resetBlock.fault = none := rfl
@[simp] theorem State.resetBlock_ports (s : State) : s.resetBlock.ports = s.ports := rfl
@[simp] theorem State.resetBlock_pending (s : State) : s.resetBlock.pending = s.pending := rfl
@[simp] theorem State.resetBlock_received (s : State) : s.resetBlock.received = s.received := rfl
@[simp] theorem State.resetBlock_drawIndex (s : State) : s.resetBlock.drawIndex = s.drawIndex := rfl

/-! ### `State.acceptCommand` (R62) -/

@[simp] theorem State.acceptCommand_cal (s : State) (p : Ports) : (s.acceptCommand p).cal = s.cal := rfl
@[simp] theorem State.acceptCommand_sample (s : State) (p : Ports) : (s.acceptCommand p).sample = s.sample := rfl
@[simp] theorem State.acceptCommand_tFine (s : State) (p : Ports) : (s.acceptCommand p).tFine = s.tFine := rfl
@[simp] theorem State.acceptCommand_tOut (s : State) (p : Ports) : (s.acceptCommand p).tOut = s.tOut := rfl
@[simp] theorem State.acceptCommand_pOut (s : State) (p : Ports) : (s.acceptCommand p).pOut = s.pOut := rfl
@[simp] theorem State.acceptCommand_hOut (s : State) (p : Ports) : (s.acceptCommand p).hOut = s.hOut := rfl
@[simp] theorem State.acceptCommand_fault (s : State) (p : Ports) : (s.acceptCommand p).fault = s.fault := rfl
@[simp] theorem State.acceptCommand_ports (s : State) (p : Ports) : (s.acceptCommand p).ports = p := rfl
@[simp] theorem State.acceptCommand_pending (s : State) (p : Ports) : (s.acceptCommand p).pending = s.pending := rfl
@[simp] theorem State.acceptCommand_received (s : State) (p : Ports) : (s.acceptCommand p).received = s.received := rfl
@[simp] theorem State.acceptCommand_drawIndex (s : State) (p : Ports) : (s.acceptCommand p).drawIndex = s.drawIndex + 1 := rfl

/-! ### `State.acceptReset` (R230) -/

@[simp] theorem State.acceptReset_cal (s : State) : s.acceptReset.cal = none := rfl
@[simp] theorem State.acceptReset_sample (s : State) : s.acceptReset.sample = none := rfl
@[simp] theorem State.acceptReset_tFine (s : State) : s.acceptReset.tFine = none := rfl
@[simp] theorem State.acceptReset_tOut (s : State) : s.acceptReset.tOut = none := rfl
@[simp] theorem State.acceptReset_pOut (s : State) : s.acceptReset.pOut = none := rfl
@[simp] theorem State.acceptReset_hOut (s : State) : s.acceptReset.hOut = none := rfl
@[simp] theorem State.acceptReset_fault (s : State) : s.acceptReset.fault = none := rfl
@[simp] theorem State.acceptReset_ports (s : State) : s.acceptReset.ports = s.ports := rfl
@[simp] theorem State.acceptReset_pending (s : State) : s.acceptReset.pending = s.pending := rfl
@[simp] theorem State.acceptReset_received (s : State) : s.acceptReset.received = s.received := rfl
@[simp] theorem State.acceptReset_drawIndex (s : State) : s.acceptReset.drawIndex = s.drawIndex + 1 := rfl

/-! ### `State.answerRead` (R61) -/

@[simp] theorem State.answerRead_cal (s : State) (sel : BitVec 3) : (s.answerRead sel).cal = s.cal := rfl
@[simp] theorem State.answerRead_sample (s : State) (sel : BitVec 3) : (s.answerRead sel).sample = s.sample := rfl
@[simp] theorem State.answerRead_tFine (s : State) (sel : BitVec 3) : (s.answerRead sel).tFine = s.tFine := rfl
@[simp] theorem State.answerRead_tOut (s : State) (sel : BitVec 3) : (s.answerRead sel).tOut = s.tOut := rfl
@[simp] theorem State.answerRead_pOut (s : State) (sel : BitVec 3) : (s.answerRead sel).pOut = s.pOut := rfl
@[simp] theorem State.answerRead_hOut (s : State) (sel : BitVec 3) : (s.answerRead sel).hOut = s.hOut := rfl
@[simp] theorem State.answerRead_fault (s : State) (sel : BitVec 3) : (s.answerRead sel).fault = s.fault := rfl
@[simp] theorem State.answerRead_ports (s : State) (sel : BitVec 3) : (s.answerRead sel).ports = s.ports := rfl
@[simp] theorem State.answerRead_pending (s : State) (sel : BitVec 3) : (s.answerRead sel).pending = s.pending := rfl
@[simp] theorem State.answerRead_received (s : State) (sel : BitVec 3) : (s.answerRead sel).received = s.readPort sel :: s.received := rfl
@[simp] theorem State.answerRead_drawIndex (s : State) (sel : BitVec 3) : (s.answerRead sel).drawIndex = s.drawIndex := rfl

/-! ### `State.withPending` (R70) -/

@[simp] theorem State.withPending_cal (s : State) (rest : List HostAction) : (s.withPending rest).cal = s.cal := rfl
@[simp] theorem State.withPending_sample (s : State) (rest : List HostAction) : (s.withPending rest).sample = s.sample := rfl
@[simp] theorem State.withPending_tFine (s : State) (rest : List HostAction) : (s.withPending rest).tFine = s.tFine := rfl
@[simp] theorem State.withPending_tOut (s : State) (rest : List HostAction) : (s.withPending rest).tOut = s.tOut := rfl
@[simp] theorem State.withPending_pOut (s : State) (rest : List HostAction) : (s.withPending rest).pOut = s.pOut := rfl
@[simp] theorem State.withPending_hOut (s : State) (rest : List HostAction) : (s.withPending rest).hOut = s.hOut := rfl
@[simp] theorem State.withPending_fault (s : State) (rest : List HostAction) : (s.withPending rest).fault = s.fault := rfl
@[simp] theorem State.withPending_ports (s : State) (rest : List HostAction) : (s.withPending rest).ports = s.ports := rfl
@[simp] theorem State.withPending_pending (s : State) (rest : List HostAction) : (s.withPending rest).pending = rest := rfl
@[simp] theorem State.withPending_received (s : State) (rest : List HostAction) : (s.withPending rest).received = s.received := rfl
@[simp] theorem State.withPending_drawIndex (s : State) (rest : List HostAction) : (s.withPending rest).drawIndex = s.drawIndex := rfl

/-! ### `Safety.accepted`: the state in which a presented command runs (R62, R203) -/

@[simp] theorem accepted_cal (s : State) (p : Ports) (rest : List HostAction) :
    (Safety.accepted s p rest).cal = s.cal := rfl
@[simp] theorem accepted_sample (s : State) (p : Ports) (rest : List HostAction) :
    (Safety.accepted s p rest).sample = s.sample := rfl
@[simp] theorem accepted_tFine (s : State) (p : Ports) (rest : List HostAction) :
    (Safety.accepted s p rest).tFine = s.tFine := rfl
@[simp] theorem accepted_tOut (s : State) (p : Ports) (rest : List HostAction) :
    (Safety.accepted s p rest).tOut = s.tOut := rfl
@[simp] theorem accepted_pOut (s : State) (p : Ports) (rest : List HostAction) :
    (Safety.accepted s p rest).pOut = s.pOut := rfl
@[simp] theorem accepted_hOut (s : State) (p : Ports) (rest : List HostAction) :
    (Safety.accepted s p rest).hOut = s.hOut := rfl
@[simp] theorem accepted_fault (s : State) (p : Ports) (rest : List HostAction) :
    (Safety.accepted s p rest).fault = s.fault := rfl
@[simp] theorem accepted_ports (s : State) (p : Ports) (rest : List HostAction) :
    (Safety.accepted s p rest).ports = p := rfl
@[simp] theorem accepted_pending (s : State) (p : Ports) (rest : List HostAction) :
    (Safety.accepted s p rest).pending = rest := rfl
@[simp] theorem accepted_received (s : State) (p : Ports) (rest : List HostAction) :
    (Safety.accepted s p rest).received = s.received := rfl
@[simp] theorem accepted_drawIndex (s : State) (p : Ports) (rest : List HostAction) :
    (Safety.accepted s p rest).drawIndex = s.drawIndex + 1 := rfl

@[simp] theorem accepted_halted (s : State) (p : Ports) (rest : List HostAction) :
    (Safety.accepted s p rest).halted = s.halted := rfl

theorem acceptCommand_withPending (s : State) (p : Ports) (rest : List HostAction) :
    (s.withPending rest).acceptCommand p = Safety.accepted s p rest := rfl

/-! ### FAULT as presence of a code -/

theorem halted_iff (s : State) : s.halted = true ↔ ∃ f, s.fault = some f := by
  simp [State.halted, Option.isSome_iff_exists]

theorem not_halted_iff (s : State) : s.halted = false ↔ s.fault = none := by
  simp [State.halted]

end Sys2Proof.Machine
end

