-- ==== Sys2Proof/Laws/Ops.lean ====
section
/-! SUPPORT. One spec lemma per shared operation: what it answers in each case, and the inversion "if it answers next t, then
…". Later proofs cite these instead of unfolding the operation. -/

namespace Sys2Proof.Machine

variable {s t : State}

/-! ### The checks that open a compute command (R201) -/

theorem withCalAndSample_noCal {k : CalibrationSet → RawSample → Result} (h : s.cal = none) :
    withCalAndSample s k = .next (s.raiseFault .noCal) := by
  simp [withCalAndSample, h, takeFault]

theorem withCalAndSample_noSample {k : CalibrationSet → RawSample → Result} {c : CalibrationSet} (h : s.cal = some c)
    (h' : s.sample = none) : withCalAndSample s k = .next (s.raiseFault .noSample) := by
  simp [withCalAndSample, h, h', takeFault]

theorem withCalAndSample_both {k : CalibrationSet → RawSample → Result} {c : CalibrationSet} {r : RawSample}
    (h : s.cal = some c) (h' : s.sample = some r) : withCalAndSample s k = k c r := by
  simp [withCalAndSample, h, h']

/-- If the check answers `next t`, one of its two faults was taken, or the command went on with the values of CAL and
SAMPLE. -/
theorem withCalAndSample_next {k : CalibrationSet → RawSample → Result} (h : withCalAndSample s k = .next t) :
    (s.cal = none ∧ t = s.raiseFault .noCal) ∨ (s.cal.isSome ∧ s.sample = none ∧ t = s.raiseFault .noSample) ∨
      ∃ c r, s.cal = some c ∧ s.sample = some r ∧ k c r = .next t := by
  cases hc : s.cal with
  | none => rw [withCalAndSample_noCal hc] at h; cases h; simp
  | some c =>
    cases hr : s.sample with
    | none => rw [withCalAndSample_noSample hc hr] at h; cases h; simp
    | some r => rw [withCalAndSample_both hc hr] at h; exact .inr (.inr ⟨c, r, rfl, rfl, h⟩)

theorem withFreshTFine_noCal {k : CalibrationSet → RawSample → Word → Result} (h : s.cal = none) :
    withFreshTFine s k = .next (s.raiseFault .noCal) := withCalAndSample_noCal h

theorem withFreshTFine_noSample {k : CalibrationSet → RawSample → Word → Result} {c : CalibrationSet}
    (h : s.cal = some c) (h' : s.sample = none) : withFreshTFine s k = .next (s.raiseFault .noSample) :=
  withCalAndSample_noSample h h'

theorem withFreshTFine_stale {k : CalibrationSet → RawSample → Word → Result} {c : CalibrationSet} {r : RawSample}
    (h : s.cal = some c) (h' : s.sample = some r) (h'' : s.tFine = none) :
    withFreshTFine s k = .next (s.raiseFault .staleTfine) := by
  simp [withFreshTFine, withCalAndSample_both h h', h'', takeFault]

theorem withFreshTFine_all {k : CalibrationSet → RawSample → Word → Result} {c : CalibrationSet} {r : RawSample}
    {tf : Word} (h : s.cal = some c) (h' : s.sample = some r) (h'' : s.tFine = some tf) :
    withFreshTFine s k = k c r tf := by
  simp [withFreshTFine, withCalAndSample_both h h', h'']

/-- If the check answers `next t`, one of its three faults was taken, or the command went on with the values of CAL, SAMPLE
and T_FINE. -/
theorem withFreshTFine_next {k : CalibrationSet → RawSample → Word → Result} (h : withFreshTFine s k = .next t) :
    (∃ code, t = s.raiseFault code ∧ (s.cal = none ∨ s.sample = none ∨ s.tFine = none)) ∨
      ∃ c r tf, s.cal = some c ∧ s.sample = some r ∧ s.tFine = some tf ∧ k c r tf = .next t := by
  obtain ⟨hc, rfl⟩ | ⟨-, hr, rfl⟩ | ⟨c, r, hc, hr, h⟩ := withCalAndSample_next h
  · exact .inl ⟨_, rfl, .inl hc⟩
  · exact .inl ⟨_, rfl, .inr (.inl hr)⟩
  · cases ht : s.tFine with
    | none => simp only [ht, takeFault] at h; cases h; exact .inl ⟨_, rfl, .inr (.inr rfl)⟩
    | some tf => simp only [ht] at h; exact .inr ⟨c, r, tf, hc, hr, rfl, h⟩

/-! ### The meanings, one inversion lemma each -/

theorem execNop_next (h : execNop s = .next t) : t = s := by cases h; rfl

theorem execLoadCal_next (h : execLoadCal s = .next t) :
    (s.calValid = true ∧ t = s.raiseFault .calReload) ∨ (s.calValid = false ∧ t = s.writeCal s.ports.calIn) := by
  cases hv : s.calValid <;> simp only [execLoadCal, hv, takeFault] at h <;> cases h <;> simp

theorem execLoadSample_next (h : execLoadSample s = .next t) : t = s.writeSample s.ports.sampleIn := by cases h; rfl

theorem execCompT_next (h : execCompT s = .next t) :
    (∃ code, t = s.raiseFault code ∧ (s.cal = none ∨ s.sample = none)) ∨
      ∃ c r, s.cal = some c ∧ s.sample = some r ∧ t = s.writeTemperature (fineTempOf c r) := by
  obtain ⟨hc, rfl⟩ | ⟨-, hr, rfl⟩ | ⟨c, r, hc, hr, h⟩ := withCalAndSample_next h
  · exact .inl ⟨_, rfl, .inl hc⟩
  · exact .inl ⟨_, rfl, .inr hr⟩
  · cases h; exact .inr ⟨c, r, hc, hr, rfl⟩

theorem execCompP_next (h : execCompP s = .next t) :
    (∃ code, t = s.raiseFault code ∧ (s.cal = none ∨ s.sample = none ∨ s.tFine = none)) ∨
      ∃ c r tf, s.cal = some c ∧ s.sample = some r ∧ s.tFine = some tf ∧ t = s.writePOut (compPOf c r tf) := by
  obtain h | ⟨c, r, tf, hc, hr, ht, h⟩ := withFreshTFine_next h
  · exact .inl h
  · cases h; exact .inr ⟨c, r, tf, hc, hr, ht, rfl⟩

theorem execCompH_next (h : execCompH s = .next t) :
    (∃ code, t = s.raiseFault code ∧ (s.cal = none ∨ s.sample = none ∨ s.tFine = none)) ∨
      ∃ c r tf, s.cal = some c ∧ s.sample = some r ∧ s.tFine = some tf ∧ t = s.writeHOut (compHOf c r tf) := by
  obtain h | ⟨c, r, tf, hc, hr, ht, h⟩ := withFreshTFine_next h
  · exact .inl h
  · cases h; exact .inr ⟨c, r, tf, hc, hr, ht, rfl⟩

theorem execCompAll_next (h : execCompAll s = .next t) :
    (∃ code, t = s.raiseFault code ∧ (s.cal = none ∨ s.sample = none)) ∨
      ∃ c r, s.cal = some c ∧ s.sample = some r ∧
        t = ((s.writeTemperature (fineTempOf c r)).writePOut (compPOf c r (fineTempOf c r))).writeHOut
          (compHOf c r (fineTempOf c r)) := by
  obtain ⟨hc, rfl⟩ | ⟨-, hr, rfl⟩ | ⟨c, r, hc, hr, h⟩ := withCalAndSample_next h
  · exact .inl ⟨_, rfl, .inl hc⟩
  · exact .inl ⟨_, rfl, .inr hr⟩
  · cases h; exact .inr ⟨c, r, hc, hr, rfl⟩

/-! ### The frame (R203) and the step -/

theorem runCommand_halted {cmd : Byte} (h : s.halted = true) : runCommand cmd s = .next s := by
  simp [runCommand, h]

theorem runCommand_illegal {cmd : Byte} {e : DecodeError} (h : s.halted = false) (hd : decode cmd = .error e) :
    runCommand cmd s = .next (s.raiseFault .illegalCmd) := by
  simp [runCommand, h, hd, takeFault]

theorem runCommand_legal {cmd : Byte} {i : Instr} (h : s.halted = false) (hd : decode cmd = .ok i) :
    runCommand cmd s = exec i s := by
  simp [runCommand, h, hd]

/-- What a command can do: nothing on a halted block, ILLEGAL_CMD on a reserved byte, else its meaning. -/
theorem runCommand_next {cmd : Byte} (h : runCommand cmd s = .next t) :
    (s.halted = true ∧ t = s) ∨ (s.halted = false ∧ (∃ e, decode cmd = .error e) ∧ t = s.raiseFault .illegalCmd) ∨
      (s.halted = false ∧ ∃ i, decode cmd = .ok i ∧ exec i s = .next t) := by
  cases hh : s.halted with
  | true => rw [runCommand_halted hh] at h; cases h; simp
  | false =>
    cases hd : decode cmd with
    | error e => rw [runCommand_illegal hh hd] at h; cases h; simp
    | ok i => rw [runCommand_legal hh hd] at h; exact .inr (.inr ⟨rfl, i, rfl, h⟩)

theorem step_idle (h : s.pending = []) : step s = .next s := by simp [step, stepBody, h]

theorem step_reset {rest : List HostAction} (h : s.pending = .reset :: rest) :
    step s = .next (s.withPending rest).acceptReset := by
  simp [step, stepBody, h, interact]

theorem step_read {sel : BitVec 3} {rest : List HostAction} (h : s.pending = .read sel :: rest) :
    step s = .next ((s.withPending rest).answerRead sel) := by
  simp [step, stepBody, h, interact]

theorem step_command {cmd : Byte} {p : Ports} {rest : List HostAction} (h : s.pending = .command cmd p :: rest) :
    step s = runCommand cmd (Safety.accepted s p rest) := by
  simp [step, stepBody, h, interact, acceptCommand_withPending]

/-- What a step can do, by what the host presents next. -/
theorem step_next (h : step s = .next t) :
    (s.pending = [] ∧ t = s) ∨
    (∃ rest, s.pending = .reset :: rest ∧ t = (s.withPending rest).acceptReset) ∨
    (∃ sel rest, s.pending = .read sel :: rest ∧ t = (s.withPending rest).answerRead sel) ∨
    (∃ cmd p rest, s.pending = .command cmd p :: rest ∧
      runCommand cmd (Safety.accepted s p rest) = .next t) := by
  match hp : s.pending with
  | [] => rw [step_idle hp] at h; cases h; simp
  | .reset :: rest => rw [step_reset hp] at h; cases h; exact .inr (.inl ⟨rest, rfl, rfl⟩)
  | .read sel :: rest => rw [step_read hp] at h; cases h; exact .inr (.inr (.inl ⟨sel, rest, rfl, rfl⟩))
  | .command cmd p :: rest => rw [step_command hp] at h; exact .inr (.inr (.inr ⟨cmd, p, rest, rfl, h⟩))

/-- One step of the host's core, then the rest of the run. -/
theorem core_run_succ {n : Nat} (h : step s = .next t) : core.run (n + 1) s = core.run n t := by
  have h' : core.step s = .next t := h
  simp only [Host.Core.run, h']

/-! ### Runs -/

theorem sameRegisters_trans {u : State} (h : Safety.SameRegisters s t) (h' : Safety.SameRegisters t u) :
    Safety.SameRegisters s u :=
  ⟨h'.cal.trans h.cal, h'.sample.trans h.sample, h'.tFine.trans h.tFine, h'.tOut.trans h.tOut, h'.pOut.trans h.pOut,
    h'.hOut.trans h.hOut, h'.fault.trans h.fault⟩

theorem core_run_zero : core.run 0 s = .next s := rfl

end Sys2Proof.Machine
end

