-- ==== Sys2Proof/Laws/PerInstr.lean ====
section
/-! SUPPORT. Statements made for every command, as syntax: a command's encoding is a legal byte of R81. -/

namespace Sys2Proof.Laws.LegalEncoding

/-- The encoding has RSV = 0 and OP other than 0b111 (R81), and a command has no operand to check (R82). -/
def Statement (i : Instr) : Prop := rsvField (encode i) = 0 ∧ opField (encode i) ≠ 7 ∧ i.wf = true

theorem nop : Statement .nop := by unfold Statement; decide
theorem loadCal : Statement .loadCal := by unfold Statement; decide
theorem loadSample : Statement .loadSample := by unfold Statement; decide
theorem compT : Statement .compT := by unfold Statement; decide
theorem compP : Statement .compP := by unfold Statement; decide
theorem compH : Statement .compH := by unfold Statement; decide
theorem compAll : Statement .compAll := by unfold Statement; decide

end Sys2Proof.Laws.LegalEncoding
end

