-- ==== Sys2Proof/Tests/Slice0.lean ====
section
/-! SUPPORT. The model's own tests. Expected values come from spec/95_test_vectors.md (section numbers in the comments) and from
the examples of the rules; none is the model's own answer. Then the witnesses: for each statement with hypotheses, a state and
operands that meet them. -/

namespace Sys2Proof.Tests

open Sys2Proof.Machine Sys2Proof.Safety

/-! ### WellFormed: an ill-formed term for each check (the ranges of R33 and R36) -/

def okCal : CalOperands :=
  { T1 := 65535, T2 := -32768, T3 := 32767, P1 := 0, P2 := -32768, P3 := 32767, P4 := 0, P5 := 0, P6 := -7, P7 := 1, P8 := -1,
    P9 := 6000, H1 := 255, H2 := -32768, H3 := 0, H4 := 32767, H5 := -1, H6 := -128 }

def okSample : SampleOperands := { P := 1048575, T := 0, H := 65535 }

theorem smoke_wf_accepts : okCal.wf = true ∧ okSample.wf = true ∧ (Line.reading okSample).wf = true := by decide

theorem smoke_wf_refuses_T :
    [{ okCal with T1 := 65536 }, { okCal with T1 := -1 }, { okCal with T2 := 32768 }, { okCal with T3 := -32769 }].all
      (fun c => !c.wf) = true := by decide

theorem smoke_wf_refuses_P :
    [{ okCal with P1 := -1 }, { okCal with P2 := 32768 }, { okCal with P3 := 32768 }, { okCal with P4 := -32769 },
      { okCal with P5 := 32768 }, { okCal with P6 := 32768 }, { okCal with P7 := -32769 }, { okCal with P8 := 32768 },
      { okCal with P9 := 65535 }].all (fun c => !c.wf) = true := by decide

theorem smoke_wf_refuses_H :
    [{ okCal with H1 := 256 }, { okCal with H2 := 32768 }, { okCal with H3 := -1 }, { okCal with H4 := 32768 },
      { okCal with H5 := -32769 }, { okCal with H6 := 128 }].all (fun c => !c.wf) = true := by decide

theorem smoke_wf_refuses_sample :
    [{ okSample with P := 1048576 }, { okSample with T := -1 }, { okSample with H := 65536 }].all
      (fun r => !r.wf && !(Line.loadSample r).wf && !(Line.reading r).wf) = true := by decide

/-! ### Decoding: each byte written out from R80 (RSV, then OP), section 2.7 -/

theorem test_decode_words :
    decode (0b00000#5 ++ 0b000#3) = .ok .nop ∧ decode (0b00000#5 ++ 0b001#3) = .ok .loadCal ∧
    decode (0b00000#5 ++ 0b010#3) = .ok .loadSample ∧ decode (0b00000#5 ++ 0b011#3) = .ok .compT ∧
    decode (0b00000#5 ++ 0b100#3) = .ok .compP ∧ decode (0b00000#5 ++ 0b101#3) = .ok .compH ∧
    decode (0b00000#5 ++ 0b110#3) = .ok .compAll := by decide

theorem test_decode_illegal :
    decode 0x07 = .error .reservedOp ∧ decode 0x08 = .error .reservedBits ∧ decode 0x0B = .error .reservedBits ∧
    decode 0x83 = .error .reservedBits ∧ decode 0xFF = .error .reservedBits := by decide

theorem test_decode_table_word :
    decodeTableWord 8 0 = some .nop ∧ decodeTableWord 8 1 = some .loadCal ∧ decodeTableWord 8 2 = some .loadSample ∧
    decodeTableWord 8 3 = some .compT ∧ decodeTableWord 8 4 = some .compP ∧ decodeTableWord 8 5 = some .compH ∧
    decodeTableWord 8 6 = some .compAll ∧ decodeTableWord 8 7 = none := by decide

/-! ### The units on the spec's vectors (sections 2.1 to 2.4) -/

theorem test_fineTemp_vectors :
    [fineTemp 519888 27504 26435 (-1000), fineTemp 0 27504 26435 (-1000), fineTemp 0xFFFFF 27504 26435 (-1000),
      fineTemp 519888 27504 0 0, fineTemp 0xFFFFF 0 (-32768) 0, fineTemp 0xFFFFF 0 0 1] =
      [128422, -721301, 960246, 0, 16, -1] := by decide

theorem test_compT_vectors :
    [compT 128422, compT (-721301), compT 960246, compT (-1), compT (-25), compT (-26), compT (-52), compT 51,
      compT 429496703, compT 429496704, compT (-429496755), compT (-429496756), compT 2147483647, compT (-2147483648)] =
      [2508, -14088, 18755, 0, 0, -1, -1, 1, 8388607, -8388608, -8388608, 8388607, -8388608, -8388608] := by decide

theorem test_pdiv_vectors :
    [pdiv 0x7FFFFFFF 3, pdiv 0x80000000 3, pdiv 0x7FFFFFFF 0x7FFFFFFF, pdiv 0x80000000 0x80000001, pdiv 0x7FFFFFFF 2,
      pdiv 0x80000000 2, pdiv 0x80000000 1, pdiv 0xFFFFFFFF 1, pdiv 0x7FFFFFFF 1, pdiv 0 5, pdiv 2147481250 37000,
      pdiv 2147484375 37000] =
      [1431655764, 1431655764, 2, 0, 2147483647, 2147483648, 0, 4294967294, 4294967294, 0, 116080, 116080] := by decide

/-- Set A with ADC_P and t_fine as given. -/
def pressureAt (c : CalibrationSet) (p : BitVec 20) (tf : Word) : Word := compPOf c { sampleA with adc_P := p } tf

theorem test_compP_vectors :
    [pressureAt setA 415148 128422, pressureAt setA 0 128422, pressureAt { setA with dig_P1 := 0 } 415148 128422,
      pressureAt setA 0xFFFFF 128422, pressureAt setA 315699 128422, pressureAt setA 315698 128422] =
      [100656, 173204, 0, 231379, 117874, 117873] := by decide

theorem test_compP_extremes :
    [pressureAt { setA with dig_P1 := 1 } 415148 128422, pressureAt { setA with dig_P1 := 65535, dig_P2 := 10685 } 415148 128422,
      pressureAt setA 415148 0, pressureAt setA 415148 2147483647, pressureAt setA 415148 (-2147483648)] =
      [0, 968, 96823, 103344, 91307] := by decide

/-- Set A with ADC_H and t_fine as given. -/
def humidityAt (h : BitVec 16) (tf : Word) : Word := compHOf setA { sampleA with adc_H := h } tf

theorem test_compH_vectors :
    [humidityAt 27000 128422, humidityAt 20188 128422, humidityAt 38147 128422, humidityAt 20189 128422, humidityAt 0 128422,
      humidityAt 65535 128422, humidityAt 38146 128422, humidityAt 27000 50000] =
      [39190, 0, 102400, 0, 0, 102400, 102398, 39181] := by decide

theorem test_humidity_before_clamp :
    [humidityRaw 27000 128422 75 362 0 313 50 30, humidityRaw 20188 128422 75 362 0 313 50 30,
      humidityRaw 38147 128422 75 362 0 313 50 30, humidityRaw 0 128422 75 362 0 313 50 30,
      humidityRaw 65535 128422 75 362 0 313 50 30, humidityRaw 27000 50000 75 362 0 313 50 30] =
      [160525758, -47405, 419471000, -486364973, 1035415128, 160486594] := by decide

theorem test_humidity_clamp_and_shift :
    [asr (humidityClamp (-1)) 12, asr (humidityClamp 0) 12, asr (humidityClamp 4095) 12, asr (humidityClamp 4096) 12,
      asr (humidityClamp 419430399) 12, asr (humidityClamp 419430400) 12, asr (humidityClamp 419430401) 12,
      asr (humidityClamp 2147483647) 12] = [0, 0, 0, 1, 102399, 102400, 102400, 102400] := by decide

/-! ### One step on a small state (sections 2.5, 2.6) -/

/-- Ports carrying set A and the example sample. -/
def portsA : Ports := { calIn := setA, sampleIn := sampleA }

/-- The reset state with CAL, SAMPLE and T_FINE as given. -/
def stateWith (c : Option CalibrationSet) (r : Option RawSample) (tf : Option Word) : State :=
  { State.reset with cal := c, sample := r, tFine := tf, ports := portsA }

/-- STATUS after one command byte on `s` (0xFFFF if the step answers no next state). -/
def statusAfter (s : State) (cmd : Byte) : BitVec 16 :=
  match step { s with pending := [.command cmd portsA] } with
  | .next t => t.status
  | .fault _ => 0xFFFF
  | .refused _ => 0xFFFF

theorem test_status_of_faults :
    [statusAfter State.reset 0x03, statusAfter (stateWith (some setA) none none) 0x04,
      statusAfter (stateWith (some setA) (some sampleA) none) 0x05, statusAfter State.reset 0x08,
      statusAfter (stateWith (some setA) none none) 0x01, statusAfter State.reset 0x04,
      statusAfter (stateWith (some setA) (some sampleA) none) 0xFF, statusAfter (stateWith (some setA) none none) 0x06] =
      [0x0500, 0x0701, 0x0903, 0x0300, 0x0B01, 0x0500, 0x0303, 0x0701] := by decide

theorem test_halted_ignores_load_cal : statusAfter { State.reset with fault := some .noCal } 0x01 = 0x0500 := by decide

theorem test_nop_keeps_status : statusAfter (stateWith (some setA) none none) 0x00 = 0x0001 := by decide

theorem test_load_cal_status : statusAfter State.reset 0x01 = 0x0001 := by decide

theorem test_load_sample_clears_validity :
    statusAfter { stateWith (some setA) (some sampleA) (some 128422) with
      tOut := some 2508, pOut := some 100656, hOut := some 39190 } 0x02 = 0x0003 := by decide

theorem test_comp_t_result :
    execCompT (stateWith (some setA) (some sampleA) none) =
      .next { stateWith (some setA) (some sampleA) (some 128422) with tOut := some 2508 } := by rfl

theorem test_comp_p_result :
    execCompP (stateWith (some setA) (some sampleA) (some 128422)) =
      .next { stateWith (some setA) (some sampleA) (some 128422) with pOut := some 100656 } := by rfl

theorem test_comp_h_result :
    execCompH (stateWith (some setA) (some sampleA) (some 128422)) =
      .next { stateWith (some setA) (some sampleA) (some 128422) with hOut := some 39190 } := by rfl

/-- Section 2.5, V-S1 and V-S2. -/
def readingAfterCompAll (r : RawSample) : Option Reading :=
  match execCompAll (stateWith (some setA) (some r) none) with
  | .next t => some (readingOf t)
  | .fault _ => none
  | .refused _ => none

theorem test_comp_all_results :
    readingAfterCompAll sampleA = some { tFine := some 128422, tOut := some 2508, pOut := some 100656, hOut := some 39190 } ∧
    readingAfterCompAll { sampleA with adc_T := 500000 } =
      some { tFine := some 96494, tOut := some 1885, pOut := some 99698, hOut := some 39199 } := by decide

/-- Program 4 of section 3: the zero guard and both humidity clamps in COMP_ALL. -/
theorem test_comp_all_guard_and_clamps :
    (match execCompAll (stateWith (some { setA with dig_P1 := 0 }) (some { sampleA with adc_H := 38147 }) none) with
      | .next t => some (t.pOut, t.hOut, t.status) | .fault _ => none | .refused _ => none) =
      some (some 0, some 102400, 0x003F) := by decide

theorem test_reset_clears_halt :
    (match step { State.reset with fault := some .noCal, pending := [.reset] } with
      | .next t => some t.status | .fault _ => none | .refused _ => none) = some 0x0000 := by decide

/-- R61: READ P_OUT returns the 32 bits; STATUS is zero-extended; a reserved select reads 0. -/
theorem test_read_port :
    State.readPort { State.reset with pOut := some 100656 } 0b011 = 0x00018930 ∧
    State.readPort { State.reset with fault := some .noCal } 0b000 = 0x00000500 ∧ State.reset.readPort 0b101 = 0 := by decide

theorem test_with_fetch_word_runs_the_command :
    (match step (State.reset.withFetchWord 8 2) with
      | .next t => some t.status | .fault _ => none | .refused _ => none) = some 0x0002 := by decide

/-! ### Assembler (R85, R86) and sensor layout (R73) -/

theorem test_assemble_reading :
    assemble portsA "READING P=415148, T=0x7EED0, ; comment = ,\n  H=27000\nREAD P_OUT ; select 0b011\n".toList =
      .ok [.command 0x02 portsA, .command 0x06 portsA, .read 0b011] := by decide

theorem test_assemble_rejects :
    assemble portsA "LOAD_SAMPLE P=1048576, T=0, H=0".toList = .error .outOfRange ∧
    assemble portsA "LOAD_SAMPLE P=-1, T=0, H=0".toList = .error .signNotAllowed ∧
    assemble portsA "LOAD_SAMPLE P=1, T=2, H=3,\n".toList = .error .badOperands ∧
    assemble portsA "COMP_X".toList = .error .unknownMnemonic ∧ assemble portsA "READ CAL".toList = .error .badOperands := by
  decide

theorem test_sample_from_bytes :
    sampleFromBytes (fun i => if i = 0 then 0x65 else if i = 1 then 0x5A else if i = 2 then 0xC0 else if i = 3 then 0x7E
      else if i = 4 then 0xED else if i = 5 then 0x00 else if i = 6 then 0x69 else 0x78) = sampleA := by decide

/-! ### Witnesses: the hypotheses of each statement can be met -/

/-- A halted state with the given interactions to come. -/
def haltedWith (acts : List HostAction) : State := { State.reset with fault := some .noCal, pending := acts }

/-- A coherent state: CAL, SAMPLE and the T_FINE computed from them. -/
def coherentState : State := { stateWith (some setA) (some sampleA) (some (fineTempOf setA sampleA)) with
  tOut := some (compT (fineTempOf setA sampleA)) }

theorem coherentState_coherent : Coherent coherentState where
  tFine v h := ⟨setA, sampleA, rfl, rfl, by cases h; rfl⟩
  tOut v h := ⟨fineTempOf setA sampleA, rfl, by cases h; rfl⟩
  pOut v h := by cases h
  hOut v h := by cases h

theorem witness_ResetEventInAnyState :
    (haltedWith [.reset]).pending = .reset :: [] ∧
    (∃ t, step (haltedWith [.reset]) = .next t ∧ (haltedWith [.reset]).halted = true ∧ t.halted = false) ∧
    (∃ t, step { coherentState with pending := [.reset] } = .next t ∧ coherentState.cal = some setA ∧ t.cal ≠ some setA) :=
  ⟨rfl, ⟨_, rfl, rfl, rfl⟩, ⟨_, rfl, rfl, by decide⟩⟩

theorem witness_StepRunsTheDecodedCommand :
    (∃ s, Presents s 0x03 portsA [] ∧ s.halted = true) ∧
    (∃ s, Presents s 0x07 portsA [] ∧ s.halted = false ∧ opField 0x07 = 7) ∧
    (∃ s, Presents s 0x08 portsA [] ∧ s.halted = false ∧ rsvField 0x08 ≠ 0) ∧
    (∃ s, Presents s 0x06 portsA [] ∧ s.halted = false ∧ decode 0x06 = .ok .compAll) ∧
    (∃ t, exec .compT State.reset = .next t ∧ t.fault ≠ State.reset.fault) :=
  ⟨⟨haltedWith [.command 0x03 portsA], rfl, rfl⟩, ⟨{ State.reset with pending := [.command 0x07 portsA] }, rfl, rfl, by decide⟩,
    ⟨{ State.reset with pending := [.command 0x08 portsA] }, rfl, rfl, by decide⟩,
    ⟨{ State.reset with pending := [.command 0x06 portsA] }, rfl, rfl, by decide⟩, ⟨_, rfl, by decide⟩⟩

theorem witness_IdleBlockDoesNothing : coherentState.pending = [] := rfl

theorem witness_FirstFailingCheckIsTheFault :
    State.reset.halted = false ∧ firstFault .compP State.reset = some .noCal ∧
    firstFault .compP (stateWith (some setA) none none) = some .noSample ∧
    firstFault .compP (stateWith (some setA) (some sampleA) none) = some .staleTfine ∧
    firstFault .loadCal (stateWith (some setA) none none) = some .calReload ∧
    (∃ s, Presents s 0x07 portsA [] ∧ s.halted = false ∧ 7 ≤ (0x07 : Byte).toNat) ∧
    (∃ t, step (haltedWith [.command 0x03 portsA]) = .next t ∧ t.fault = some .noCal) ∧
    (Coherent coherentState ∧ coherentState.tfineValid = true) :=
  ⟨rfl, rfl, rfl, rfl, rfl, ⟨{ State.reset with pending := [.command 0x07 portsA] }, rfl, rfl, by decide⟩, ⟨_, rfl, rfl⟩,
    coherentState_coherent, rfl⟩

theorem witness_HaltedBlockIgnoresCommandsUntilReset :
    (haltedWith [.command 0x01 portsA, .read 0, .reset]).pending = [.command 0x01 portsA, .read 0] ++ [.reset] ∧
    (haltedWith [.command 0x01 portsA, .read 0, .reset]).halted = true ∧
    (∀ a ∈ [HostAction.command 0x01 portsA, .read 0], NoReset a) ∧
    (haltedWith [.read 0]).pending = .read 0 :: [] :=
  ⟨rfl, rfl, by simp [NoReset], rfl⟩

theorem witness_StatusFieldsAndWhatChangesThem :
    (∃ s t, step s = .next t ∧ Rises 0 s t) ∧ (∃ s t, step s = .next t ∧ Falls 0 s t) ∧
    (∃ s t, step s = .next t ∧ Rises 1 s t) ∧ (∃ s t, step s = .next t ∧ Falls 2 s t ∧ CommandNext s [0x02]) ∧
    (∃ s t, step s = .next t ∧ Rises 2 s t ∧ Rises 3 s t) ∧ (∃ s t, step s = .next t ∧ Rises 4 s t) ∧
    (∃ s t, step s = .next t ∧ Rises 5 s t) ∧ (∃ s t, step s = .next t ∧ Rises 8 s t) ∧
    (∃ s t, step s = .next t ∧ Falls 8 s t) ∧ (∃ s t, step s = .next t ∧ s.fcode ≠ 0 ∧ t.fcode = s.fcode) :=
  ⟨⟨{ State.reset with pending := [.command 0x01 portsA] }, _, rfl, by decide⟩,
    ⟨{ coherentState with pending := [.reset] }, _, rfl, by decide⟩,
    ⟨{ State.reset with pending := [.command 0x02 portsA] }, _, rfl, by decide⟩,
    ⟨{ coherentState with pending := [.command 0x02 portsA] }, _, rfl, by decide, ⟨0x02, portsA, [], rfl, by decide⟩⟩,
    ⟨{ stateWith (some setA) (some sampleA) none with pending := [.command 0x03 portsA] }, _, rfl, by decide, by decide⟩,
    ⟨{ coherentState with pending := [.command 0x04 portsA] }, _, rfl, by decide⟩,
    ⟨{ coherentState with pending := [.command 0x05 portsA] }, _, rfl, by decide⟩,
    ⟨{ State.reset with pending := [.command 0x07 portsA] }, _, rfl, by decide⟩, ⟨haltedWith [.reset], _, rfl, by decide⟩,
    ⟨haltedWith [.command 0x00 portsA], _, rfl, by decide, by decide⟩⟩

theorem witness_OnlyNamedCommandsWriteRegisters :
    (∃ t, step { State.reset with pending := [.command 0x01 portsA] } = .next t ∧ t.cal = some setA) ∧
    (∃ t, step { State.reset with pending := [.command 0x02 portsA] } = .next t ∧ t.sample = some sampleA) ∧
    (∃ t v, step { stateWith (some setA) (some sampleA) none with pending := [.command 0x06 portsA] } = .next t ∧
      t.tFine = some v ∧ t.tOut.isSome ∧ t.pOut.isSome ∧ t.hOut.isSome) :=
  ⟨⟨_, rfl, rfl⟩, ⟨_, rfl, rfl⟩, ⟨_, _, rfl, rfl, rfl, rfl, rfl⟩⟩

theorem witness_CalibrationIsImmutableUntilReset :
    ∃ s : State, s.cal = some setA ∧ s.pending = [.command 0x01 portsA] ++ [.reset] ∧
      ∀ a ∈ [HostAction.command 0x01 portsA], NoReset a :=
  ⟨{ coherentState with pending := [.command 0x01 portsA, .reset] }, rfl, rfl, by simp [NoReset]⟩

theorem witness_ReadPortIsPureAndRepeatable :
    (∃ s : State, s.pending = .read 0b111 :: [] ∧ s.pending = [0b111].map HostAction.read ++ []) ∧
    (∃ s : State, s.tFine = some 1 ∧ s.tOut = some 2 ∧ s.pOut = some 3 ∧ s.hOut = some 102400) :=
  ⟨⟨{ State.reset with pending := [.read 0b111] }, rfl, rfl⟩,
    ⟨{ State.reset with tFine := some 1, tOut := some 2, pOut := some 3, hOut := some 102400 }, rfl, rfl, rfl, rfl⟩⟩

theorem witness_OpcodeMapBytesDecode : 8 ≤ (0x08 : Byte).toNat := by decide

theorem witness_LegalBytesAreTheEncodings :
    decode 0x06 = .ok .compAll ∧
    (∀ i, decode 0x07 ≠ .ok i) ∧ (∀ i, decode 0x08 ≠ .ok i) ∧
    (∃ s, Presents s 0x07 portsA [] ∧ s.halted = false) ∧ (∃ s, Presents s 0x08 portsA [] ∧ s.halted = false) :=
  ⟨by decide, fun i => by cases i <;> decide, fun i => by cases i <;> decide,
    ⟨{ State.reset with pending := [.command 0x07 portsA] }, rfl, rfl⟩,
    ⟨{ State.reset with pending := [.command 0x08 portsA] }, rfl, rfl⟩⟩

theorem witness_ReadingExpandsToTwoCommands : okSample.wf = true := by decide

theorem witness_AssemblerRangeChecksAndKeepsValues :
    (Line.loadSample { okSample with P := 1048576 }).wf = false ∧ (Line.loadCal okCal).wf = true ∧ okSample.wf = true ∧
    okCal.wf = true := by decide

theorem witness_DatapathOperationsAreExactThenWrapped : (31 : Nat) ≤ 31 ∧ (1 : Word) ≠ 0 := by decide

theorem witness_NopHasNoEffect : Presents (haltedWith [.command 0x00 portsA]) 0x00 portsA [] := rfl

theorem witness_LoadCalWritesCalibrationOnce :
    State.reset.cal = none ∧ coherentState.cal = some setA ∧ (∃ t, exec .loadCal State.reset = .next t) ∧
    ({ setA with dig_P1 := 0 } : CalibrationSet).dig_P1 = 0 ∧ portsA.calIn.dig_T3 = -1000 :=
  ⟨rfl, rfl, ⟨_, rfl⟩, rfl, rfl⟩

theorem witness_LoadSampleMakesResultsStale :
    ∃ s t : State, s.status = 0x003F ∧ exec .loadSample s = .next t :=
  ⟨{ coherentState with pOut := some 0, hOut := some 0 }, _, by decide, rfl⟩

theorem witness_CompTFloorsTowardMinusInfinity :
    -429496755 ≤ (-429496755 : Word).toInt ∧ (429496703 : Word).toInt ≤ 429496703 := by decide

theorem witness_ExampleConstantsDoNotWrap :
    313696 ≤ (313696 : BitVec 20).toNat ∧ (712487 : BitVec 20).toNat ≤ 712487 := by decide

theorem witness_compute_commands :
    State.reset.cal = none ∧
    ((stateWith (some setA) none none).cal = some setA ∧ (stateWith (some setA) none none).sample = none) ∧
    ((stateWith (some setA) (some sampleA) none).sample = some sampleA ∧
      (stateWith (some setA) (some sampleA) none).tFine = none) ∧
    (coherentState.cal = some setA ∧ coherentState.sample = some sampleA ∧
      coherentState.tFine = some (fineTempOf setA sampleA)) :=
  ⟨rfl, ⟨rfl, rfl⟩, ⟨rfl, rfl⟩, ⟨rfl, rfl, rfl⟩⟩

theorem witness_CompTComputesFineTemperature :
    ({ setA with dig_T2 := 0, dig_T3 := 0 } : CalibrationSet).dig_T2 = 0 ∧ Coherent coherentState ∧
    coherentState.tfineValid = true ∧ ∃ t, exec .compT coherentState = .next t :=
  ⟨rfl, coherentState_coherent, rfl, ⟨_, rfl⟩⟩

theorem witness_PressureDivisionBranches :
    (1 : Word) ≠ 0 ∧ (0x7FFFFFFF : Word).toNat < 2 ^ 31 ∧ 2 ^ 31 ≤ (0x80000000 : Word).toNat ∧
    (3 : Word).toNat ≤ 2 * ((0x7FFFFFFD : Word).toNat % (3 : Word).toNat) := by decide

theorem witness_PressureDivisorRangeAndZeroGuard :
    (pressureDivisor 128422 (zext32 (0 : BitVec 16)) (digP2 setA) (digP3 setA) = 0) ∧
    (pressureDivisor 128422 (zext32 (1 : BitVec 16)) (digP2 setA) (digP3 setA) = 0 ∧
      (pressureScale 128422 (digP2 setA) (digP3 setA)).toInt < 0) ∧
    (pressureDivisor 128422 (digP1 setA) (digP2 setA) (digP3 setA) = 36471) ∧
    2 ^ 31 ≤ (32768 + (pressureScale 128422 (sext32 (10685 : BitVec 16)) (digP3 setA)).toInt) *
      ((65535 : BitVec 16).toNat : Int) := by decide

theorem witness_DividendAtThresholdIsUnreachable :
    (pressureDividend 315699 128422 2855 140 (-7)).toNat < 2 ^ 31 ∧
    2 ^ 31 ≤ (pressureDividend 315698 128422 2855 140 (-7)).toNat := by decide

theorem witness_CompPComputesPressure :
    pressureDivisor 128422 (zext32 ({ setA with dig_P1 := 0 } : CalibrationSet).dig_P1) (digP2 setA) (digP3 setA) = 0 ∧
    ∃ t, exec .compP (stateWith (some setA) (some sampleA) (some 128422)) = .next t :=
  ⟨by decide, ⟨_, rfl⟩⟩

theorem witness_HumidityClampAndRange :
    (humidityRaw 20189 128422 75 362 0 313 50 30).toInt ≤ 0 ∧
    419430400 ≤ (humidityRaw 38147 128422 75 362 0 313 50 30).toInt := by decide

theorem witness_CompHComputesHumidity :
    (∃ c : CalibrationSet, c.dig_H1 = 0 ∧ c.dig_H2 = 0 ∧ c.dig_H3 = 0 ∧ c.dig_H4 = 0 ∧ c.dig_H5 = 0 ∧ c.dig_H6 = 0) ∧
    ∃ t, exec .compH (stateWith (some setA) (some sampleA) (some 128422)) = .next t :=
  ⟨⟨idlePorts.calIn, rfl, rfl, rfl, rfl, rfl, rfl⟩, ⟨_, rfl⟩⟩

theorem witness_CompAllEqualsTheThreeUnitsInOrder :
    (∃ t, RunsTo 1 { coherentState with pending := [.command 0x06 portsA] } t) ∧
    (∃ t, RunsTo 3 { coherentState with
      pending := [.command 0x03 portsA, .command 0x04 portsA, .command 0x05 portsA] } t) ∧
    (∃ t, RunsTo 3 { coherentState with
      pending := [.command 0x03 portsA, .command 0x05 portsA, .command 0x04 portsA] } t) ∧ portsA.sampleIn = sampleA :=
  ⟨⟨_, rfl⟩, ⟨_, rfl⟩, ⟨_, rfl⟩, rfl⟩

theorem witness_CompensationIsDeterministic :
    coherentState.cal = some setA ∧ coherentState.sample = some sampleA ∧ Coherent coherentState ∧
    coherentState.tfineValid = true ∧ (∃ t, exec .compAll coherentState = .next t) ∧
    (∃ t, exec .compP coherentState = .next t) ∧ ∃ t, exec .compH coherentState = .next t :=
  ⟨rfl, rfl, coherentState_coherent, rfl, ⟨_, rfl⟩, ⟨_, rfl⟩, ⟨_, rfl⟩⟩

theorem witness_StaleFineTemperatureIsDetected :
    (∃ s : State, Presents s 0x02 portsA ([.command 0x00 portsA, .read 1] ++ .command 0x05 portsA :: []) ∧
      s.halted = false ∧ s.calValid = true ∧ ∀ a ∈ [HostAction.command 0x00 portsA, .read 1], NopOrRead a) ∧
    (∃ s : State, Presents s 0x02 portsA ([.command 0x04 portsA, .reset] ++ []) ∧ s.halted = false ∧
      ∀ a ∈ [HostAction.command 0x04 portsA, .reset], NotCommand [0x03, 0x06] a) ∧
    (∃ s : State, Presents s 0x02 portsA (.command 0x03 portsA :: []) ∧ s.halted = false ∧ s.calValid = true) :=
  ⟨⟨{ coherentState with
      pending := [.command 0x02 portsA, .command 0x00 portsA, .read 1, .command 0x05 portsA] }, rfl, rfl, rfl,
      by simp [NopOrRead]⟩,
    ⟨{ coherentState with pending := [.command 0x02 portsA, .command 0x04 portsA, .reset] }, rfl, rfl,
      by simp [NotCommand]⟩,
    ⟨{ coherentState with pending := [.command 0x02 portsA, .command 0x03 portsA] }, rfl, rfl, rfl⟩⟩

theorem witness_NoOtherOrderingHazard :
    (∃ t, RunsTo 2 { coherentState with pending := [.command 0x04 portsA, .command 0x05 portsA] } t) ∧
    (∃ t, RunsTo 2 { coherentState with pending := [.command 0x05 portsA, .command 0x04 portsA] } t) ∧
    coherentState.calValid = true ∧
    (∃ t u, exec .loadSample coherentState = .next t ∧ exec .compP t = .next u) ∧
    Instr.compH ∈ [Instr.compT, .compP, .compH, .compAll] :=
  ⟨⟨_, rfl⟩, ⟨_, rfl⟩, rfl, ⟨_, _, rfl, rfl⟩, by decide⟩

/-- A session with two cycles and reads between the commands. -/
def sessionActs : List HostAction :=
  [.read 0b000, .command 0x01 portsA, .command 0x02 portsA, .read 0b001, .command 0x06 portsA, .read 0b010,
    .command 0x02 portsA, .command 0x03 portsA, .command 0x05 portsA, .read 0b100, .command 0x04 portsA]

theorem witness_RequiredSessionOrderGivesTheReading :
    (∀ a ∈ sessionActs, NoReset a) ∧
    commandsOf sessionActs = sessionCommands portsA [(.whole, portsA, portsA)] .humidityFirst portsA portsA :=
  ⟨by simp [sessionActs, NoReset], rfl⟩

/-- R250: a list with a second reset is no run, whatever it ends in. -/
theorem test_no_reset_inside_a_run (s t : State) : ¬ IsRun s [.command 0x03 portsA, .reset] t :=
  fun h => h.1 .reset (by simp) rfl

theorem witness_ValidRegistersStayCurrent :
    Coherent coherentState ∧ ∃ t, step { coherentState with pending := [.command 0x02 portsA] } = .next t :=
  ⟨coherentState_coherent, ⟨_, rfl⟩⟩

end Sys2Proof.Tests
end

section
/-! SUPPORT. What each primitive of the datapath computes, as an exact integer operation that is then wrapped or floored
(R15, R17, R18, R20), and the statement O17 assembled from these rules. -/

namespace Sys2Proof.Machine

/-! ### `+`, `-`, `*` on `s32` values (R15) -/

theorem toInt_add_eq_s32 (a b : Word) : (a + b).toInt = Reference.s32 (a.toInt + b.toInt) := by
  rw [Reference.s32_eq_bmod, BitVec.toInt_add]

theorem toInt_sub_eq_s32 (a b : Word) : (a - b).toInt = Reference.s32 (a.toInt - b.toInt) := by
  rw [Reference.s32_eq_bmod, BitVec.toInt_sub]

theorem toInt_mul_eq_s32 (a b : Word) : (a * b).toInt = Reference.s32 (a.toInt * b.toInt) := by
  rw [Reference.s32_eq_bmod, BitVec.toInt_mul]

/-! ### The shifts to the right (R17, R18) and the division (R20) -/

/-- The sign-preserving shift rounds toward minus infinity: `Int` division by a positive divisor is the floor. -/
@[simp] theorem toInt_asr (a : Word) (k : Nat) : (asr a k).toInt = a.toInt / 2 ^ k := by
  rw [asr, BitVec.toInt_sshiftRight, Int.shiftRight_eq_div_pow, Int.natCast_pow, Nat.cast_ofNat]

/-- The pattern of all ones is a fixed point of the sign-preserving shift. -/
@[simp] theorem asr_neg_one (k : Nat) : asr (-1) k = -1 := by
  have one_le : (1 : Int) ≤ 2 ^ k := one_le_pow₀ one_le_two
  have floor_eq : (-1 : Int) / 2 ^ k = -1 := Int.ediv_eq_neg_one_of_neg_of_le (by decide) one_le
  apply BitVec.eq_of_toInt_eq
  rw [toInt_asr]
  exact floor_eq

@[simp] theorem toNat_lsr (u : Word) (k : Nat) : (lsr u k).toNat = u.toNat / 2 ^ k := by
  rw [lsr, BitVec.toNat_ushiftRight, Nat.shiftRight_eq_div_pow]

@[simp] theorem toNat_udiv32 (n d : Word) : (udiv32 n d).toNat = n.toNat / d.toNat := by
  rw [udiv32, BitVec.toNat_udiv]

/-- Settles O17: the rules above hold for every shift count and divisor, so the statement's bounds on them go unused;
R17's example -3 >> 1 is evaluated. -/
theorem datapathOperationsAreExactThenWrapped : Obligations.DatapathOperationsAreExactThenWrapped :=
  ⟨fun a b => ⟨toInt_add_eq_s32 a b, toInt_sub_eq_s32 a b, toInt_mul_eq_s32 a b⟩,
    fun a k _ => toInt_asr a k, by decide, fun k _ => asr_neg_one k,
    fun u k _ => toNat_lsr u k, fun n d _ => toNat_udiv32 n d⟩

end Sys2Proof.Machine
end

section
/-! SUPPORT. What one step can do to the registers, said once (`StepEffect`, `step_effect`), and what it does to each register,
read off from it. Every statement of 10_state.md about a step is derived from these. -/

namespace Sys2Proof.Machine

open Safety

variable {s t : State}

/-! ### The byte of a decoded command (R80, R83) -/

theorem rsvField_append_opField (b : Byte) : rsvField b ++ opField b = b := by
  have glued := BitVec.extractLsb'_append_extractLsb'_eq_extractLsb' (x := b) (show 3 = 0 + 3 from rfl) (len₂ := 5)
  exact glued.trans BitVec.extractLsb'_eq_self

theorem encode_of_decodeOp {op : BitVec 3} {i : Instr} (h : decodeOp op = .ok i) : encode i = 0#5 ++ op := by
  revert h
  cases i <;> revert op <;> decide

theorem encode_of_decode {b : Byte} {i : Instr} (h : decode b = .ok i) : encode i = b := by
  unfold decode at h
  split at h
  next rsv_zero => rw [encode_of_decodeOp h, ← BitVec.ofNat_eq_ofNat, ← rsv_zero, rsvField_append_opField]
  next => cases h

/-! ### The effect of a step -/

/-- The next states of one step, by what happens to the registers. A command that does its work names the byte that was
presented and the values it found in the registers it reads. -/
inductive StepEffect (s : State) : State → Prop where
  /-- The host presents nothing, a read, a NOP, or a command to a halted block. -/
  | keep {t : State} (same : SameRegisters s t) (pending : t.pending = s.pending.tail) : StepEffect s t
  | reset {rest : List HostAction} (pending : s.pending = .reset :: rest) : StepEffect s (s.withPending rest).acceptReset
  | fault {cmd : Byte} {p : Ports} {rest : List HostAction} {code : FaultCode} (presents : Presents s cmd p rest)
      (running : s.fault = none) : StepEffect s ((accepted s p rest).raiseFault code)
  | loadCal {p : Ports} {rest : List HostAction} (presents : Presents s 0x01 p rest) (cal : s.cal = none) :
      StepEffect s ((accepted s p rest).writeCal p.calIn)
  | loadSample {p : Ports} {rest : List HostAction} (presents : Presents s 0x02 p rest) :
      StepEffect s ((accepted s p rest).writeSample p.sampleIn)
  | compT {p : Ports} {rest : List HostAction} {c : CalibrationSet} {r : RawSample} (presents : Presents s 0x03 p rest)
      (cal : s.cal = some c) (sample : s.sample = some r) :
      StepEffect s ((accepted s p rest).writeTemperature (fineTempOf c r))
  | compP {p : Ports} {rest : List HostAction} {c : CalibrationSet} {r : RawSample} {tf : Word}
      (presents : Presents s 0x04 p rest) (cal : s.cal = some c) (sample : s.sample = some r) (tFine : s.tFine = some tf) :
      StepEffect s ((accepted s p rest).writePOut (compPOf c r tf))
  | compH {p : Ports} {rest : List HostAction} {c : CalibrationSet} {r : RawSample} {tf : Word}
      (presents : Presents s 0x05 p rest) (cal : s.cal = some c) (sample : s.sample = some r) (tFine : s.tFine = some tf) :
      StepEffect s ((accepted s p rest).writeHOut (compHOf c r tf))
  | compAll {p : Ports} {rest : List HostAction} {c : CalibrationSet} {r : RawSample} (presents : Presents s 0x06 p rest)
      (cal : s.cal = some c) (sample : s.sample = some r) :
      StepEffect s ((((accepted s p rest).writeTemperature (fineTempOf c r)).writePOut (compPOf c r (fineTempOf c r))).writeHOut
        (compHOf c r (fineTempOf c r)))

theorem sameRegisters_accepted (s : State) (p : Ports) (rest : List HostAction) : SameRegisters s (accepted s p rest) :=
  ⟨rfl, rfl, rfl, rfl, rfl, rfl, rfl⟩

theorem stepEffect_accepted {cmd : Byte} {p : Ports} {rest : List HostAction} (presents : Presents s cmd p rest) :
    StepEffect s (accepted s p rest) :=
  .keep (sameRegisters_accepted s p rest) (congrArg List.tail presents).symm

/-- The command rules, one by one, on the state in which the command has been taken. -/
theorem exec_effect {i : Instr} {p : Ports} {rest : List HostAction} (presents : Presents s (encode i) p rest)
    (running : s.fault = none) (h : exec i (accepted s p rest) = .next t) : StepEffect s t := by
  cases i with
  | nop => rw [execNop_next h]; exact stepEffect_accepted presents
  | loadCal =>
    obtain ⟨-, rfl⟩ | ⟨no_cal, rfl⟩ := execLoadCal_next h
    · exact .fault presents running
    · exact .loadCal presents (by simpa [State.calValid] using no_cal)
  | loadSample => rw [execLoadSample_next h]; exact .loadSample presents
  | compT =>
    obtain ⟨_, rfl, -⟩ | ⟨c, r, cal, sample, rfl⟩ := execCompT_next h
    · exact .fault presents running
    · exact .compT presents cal sample
  | compP =>
    obtain ⟨_, rfl, -⟩ | ⟨c, r, tf, cal, sample, tFine, rfl⟩ := execCompP_next h
    · exact .fault presents running
    · exact .compP presents cal sample tFine
  | compH =>
    obtain ⟨_, rfl, -⟩ | ⟨c, r, tf, cal, sample, tFine, rfl⟩ := execCompH_next h
    · exact .fault presents running
    · exact .compH presents cal sample tFine
  | compAll =>
    obtain ⟨_, rfl, -⟩ | ⟨c, r, cal, sample, rfl⟩ := execCompAll_next h
    · exact .fault presents running
    · exact .compAll presents cal sample

/-- What a step can do: every next state is one of `StepEffect`'s. -/
theorem step_effect (h : step s = .next t) : StepEffect s t := by
  obtain ⟨idle, rfl⟩ | ⟨rest, reset, rfl⟩ | ⟨sel, rest, read, rfl⟩ | ⟨cmd, p, rest, presents, run⟩ := step_next h
  · exact .keep ⟨rfl, rfl, rfl, rfl, rfl, rfl, rfl⟩ (by simp [idle])
  · exact .reset reset
  · exact .keep ⟨rfl, rfl, rfl, rfl, rfl, rfl, rfl⟩ (by simp [read])
  · obtain ⟨-, rfl⟩ | ⟨running, -, rfl⟩ | ⟨running, i, legal, run⟩ := runCommand_next run
    · exact stepEffect_accepted presents
    · exact .fault presents ((not_halted_iff s).1 running)
    · exact exec_effect (encode_of_decode legal ▸ presents) ((not_halted_iff s).1 running) run

theorem step_pending (h : step s = .next t) : t.pending = s.pending.tail := by
  cases step_effect h with
  | keep _ pending => exact pending
  | reset pending => simp [pending]
  | _ => simp_all [Presents]

/-! ### What a step does to each register -/

/-- What one step may do to a register: leave it, clear its validity bit when `clears` holds, or write a value `v` for which
`writes v` holds. -/
inductive RegisterStep {α : Type} (before after : Option α) (clears : Prop) (writes : α → Prop) : Prop where
  | keep (same : after = before)
  | clear (stale : after = none) (cause : clears)
  | write {v : α} (valid : after = some v) (cause : writes v)

section
variable {α : Type} {before after : Option α} {clears : Prop} {writes : α → Prop}
  (change : RegisterStep before after clears writes)
include change

/-- A value that is there after the step was there before, or was written. -/
theorem RegisterStep.old_or_written {v : α} (valid : after = some v) : before = some v ∨ writes v := by
  cases change with
  | keep same => exact .inl (same ▸ valid)
  | clear stale => simp [stale] at valid
  | write written cause => cases valid.symm.trans written; exact .inr cause

/-- A validity bit that rises is set by a write. -/
theorem RegisterStep.written_of_rise (rise : before.isSome = false ∧ after.isSome = true) : ∃ v, writes v := by
  obtain ⟨v, valid⟩ := Option.isSome_iff_exists.1 rise.2
  obtain old | written := change.old_or_written valid
  · simp [old] at rise
  · exact ⟨v, written⟩

/-- A validity bit that falls is cleared. -/
theorem RegisterStep.clears_of_fall (fall : before.isSome = true ∧ after.isSome = false) : clears := by
  cases change with
  | keep same => rw [same] at fall; exact absurd (fall.1.symm.trans fall.2) (by decide)
  | clear _ cause => exact cause
  | write valid => simp [valid] at fall

end

theorem commandNext_of_presents {cmd : Byte} {p : Ports} {rest : List HostAction} {cmds : List Byte}
    (h : Presents s cmd p rest) (mem : cmd ∈ cmds) : CommandNext s cmds := ⟨cmd, p, rest, h, mem⟩

theorem step_cal (h : step s = .next t) :
    RegisterStep s.cal t.cal (ResetNext s) fun c => ∃ p rest, Presents s 0x01 p rest ∧ s.cal = none ∧ c = p.calIn := by
  cases step_effect h with
  | keep same => exact .keep same.cal
  | reset pending => exact .clear rfl ⟨_, pending⟩
  | loadCal presents no_cal => exact .write rfl ⟨_, _, presents, no_cal, rfl⟩
  | _ => exact .keep rfl

theorem step_sample (h : step s = .next t) :
    RegisterStep s.sample t.sample (ResetNext s) fun r => ∃ p rest, Presents s 0x02 p rest ∧ r = p.sampleIn := by
  cases step_effect h with
  | keep same => exact .keep same.sample
  | reset pending => exact .clear rfl ⟨_, pending⟩
  | loadSample presents => exact .write rfl ⟨_, _, presents, rfl⟩
  | _ => exact .keep rfl

theorem step_tFine (h : step s = .next t) :
    RegisterStep s.tFine t.tFine (CommandNext s [0x02] ∨ ResetNext s) fun v =>
      CommandNext s [0x03, 0x06] ∧ ∃ c r, s.cal = some c ∧ s.sample = some r ∧ v = fineTempOf c r := by
  cases step_effect h with
  | keep same => exact .keep same.tFine
  | reset pending => exact .clear rfl (.inr ⟨_, pending⟩)
  | loadSample presents => exact .clear rfl (.inl (commandNext_of_presents presents (by simp)))
  | compT presents cal sample => exact .write rfl ⟨commandNext_of_presents presents (by simp), _, _, cal, sample, rfl⟩
  | compAll presents cal sample => exact .write rfl ⟨commandNext_of_presents presents (by simp), _, _, cal, sample, rfl⟩
  | _ => exact .keep rfl

theorem step_tOut (h : step s = .next t) :
    RegisterStep s.tOut t.tOut (CommandNext s [0x02] ∨ ResetNext s) fun v =>
      CommandNext s [0x03, 0x06] ∧ ∃ c r, s.cal = some c ∧ s.sample = some r ∧ v = compT (fineTempOf c r) := by
  cases step_effect h with
  | keep same => exact .keep same.tOut
  | reset pending => exact .clear rfl (.inr ⟨_, pending⟩)
  | loadSample presents => exact .clear rfl (.inl (commandNext_of_presents presents (by simp)))
  | compT presents cal sample => exact .write rfl ⟨commandNext_of_presents presents (by simp), _, _, cal, sample, rfl⟩
  | compAll presents cal sample => exact .write rfl ⟨commandNext_of_presents presents (by simp), _, _, cal, sample, rfl⟩
  | _ => exact .keep rfl

theorem step_pOut (h : step s = .next t) :
    RegisterStep s.pOut t.pOut (CommandNext s [0x02] ∨ ResetNext s) fun v =>
      CommandNext s [0x04, 0x06] ∧
        ∃ c r tf, s.cal = some c ∧ s.sample = some r ∧ t.tFine = some tf ∧ v = compPOf c r tf := by
  cases step_effect h with
  | keep same => exact .keep same.pOut
  | reset pending => exact .clear rfl (.inr ⟨_, pending⟩)
  | loadSample presents => exact .clear rfl (.inl (commandNext_of_presents presents (by simp)))
  | compP presents cal sample tFine =>
    exact .write rfl ⟨commandNext_of_presents presents (by simp), _, _, _, cal, sample, tFine, rfl⟩
  | compAll presents cal sample =>
    exact .write rfl ⟨commandNext_of_presents presents (by simp), _, _, _, cal, sample, rfl, rfl⟩
  | _ => exact .keep rfl

theorem step_hOut (h : step s = .next t) :
    RegisterStep s.hOut t.hOut (CommandNext s [0x02] ∨ ResetNext s) fun v =>
      CommandNext s [0x05, 0x06] ∧
        ∃ c r tf, s.cal = some c ∧ s.sample = some r ∧ t.tFine = some tf ∧ v = compHOf c r tf := by
  cases step_effect h with
  | keep same => exact .keep same.hOut
  | reset pending => exact .clear rfl (.inr ⟨_, pending⟩)
  | loadSample presents => exact .clear rfl (.inl (commandNext_of_presents presents (by simp)))
  | compH presents cal sample tFine =>
    exact .write rfl ⟨commandNext_of_presents presents (by simp), _, _, _, cal, sample, tFine, rfl⟩
  | compAll presents cal sample =>
    exact .write rfl ⟨commandNext_of_presents presents (by simp), _, _, _, cal, sample, rfl, rfl⟩
  | _ => exact .keep rfl

/-- FAULT and FCODE: a command on a running block sets them, a reset clears them, nothing else touches them (R203, R206). -/
theorem step_fault (h : step s = .next t) :
    RegisterStep s.fault t.fault (ResetNext s) fun _ => s.fault = none ∧ ∃ cmd p rest, Presents s cmd p rest := by
  cases step_effect h with
  | keep same => exact .keep same.fault
  | reset pending => exact .clear rfl ⟨_, pending⟩
  | fault presents running => exact .write rfl ⟨running, _, _, _, presents⟩
  | _ => exact .keep rfl

/-- Settles O9: each clause is what the step does to that register. -/
theorem onlyNamedCommandsWriteRegisters : Obligations.OnlyNamedCommandsWriteRegisters := fun _ _ h =>
  ⟨fun _ => (step_cal h).old_or_written, fun _ => (step_sample h).old_or_written, fun _ => (step_tFine h).old_or_written,
    fun _ => (step_tOut h).old_or_written, fun _ => (step_pOut h).old_or_written, fun _ => (step_hOut h).old_or_written⟩

end Sys2Proof.Machine
end

section
/-! SUPPORT. `Coherent`: what it says of a block with CAL and SAMPLE valid, when it holds, and that reset establishes it and
every step keeps it (O38, O39; R38 to R40). -/

namespace Sys2Proof.Safety

open Machine

variable {s t : State} {c : CalibrationSet} {r : RawSample}

/-! ### Establishing `Coherent` -/

/-- With T_FINE and the outputs stale the validity bits promise nothing. -/
theorem coherent_of_no_results (tFine : t.tFine = none) (tOut : t.tOut = none) (pOut : t.pOut = none) (hOut : t.hOut = none) :
    Coherent t where
  tFine := by simp [tFine]
  tOut := by simp [tOut]
  pOut := by simp [pOut]
  hOut := by simp [hOut]

/-- With CAL, SAMPLE and T_FINE current it is enough that each valid output is its unit's result on them. -/
theorem coherent_of_current (cal : t.cal = some c) (sample : t.sample = some r) (tFine : t.tFine = some (fineTempOf c r))
    (tOut : ∀ v, t.tOut = some v → v = compT (fineTempOf c r))
    (pOut : ∀ v, t.pOut = some v → v = compPOf c r (fineTempOf c r))
    (hOut : ∀ v, t.hOut = some v → v = compHOf c r (fineTempOf c r)) : Coherent t where
  tFine _ valid := ⟨c, r, cal, sample, Option.some.inj (valid.symm.trans tFine)⟩
  tOut v valid := ⟨_, tFine, tOut v valid⟩
  pOut v valid := ⟨c, r, _, cal, sample, tFine, pOut v valid⟩
  hOut v valid := ⟨c, r, _, cal, sample, tFine, hOut v valid⟩

/-- `Coherent` speaks of the registers alone. -/
theorem coherent_of_sameRegisters (same : SameRegisters s t) (coherent : Coherent s) : Coherent t where
  tFine := by rw [same.tFine, same.cal, same.sample]; exact coherent.tFine
  tOut := by rw [same.tOut, same.tFine]; exact coherent.tOut
  pOut := by rw [same.pOut, same.cal, same.sample, same.tFine]; exact coherent.pOut
  hOut := by rw [same.hOut, same.cal, same.sample, same.tFine]; exact coherent.hOut

/-! ### What `Coherent` says once CAL and SAMPLE are known -/

section
variable {v : Word} (coherent : Coherent s) (cal : s.cal = some c) (sample : s.sample = some r)
include coherent cal sample

theorem Coherent.tFine_eq (valid : s.tFine = some v) : v = fineTempOf c r := by
  obtain ⟨c', r', cal', sample', rfl⟩ := coherent.tFine v valid
  cases cal.symm.trans cal'
  cases sample.symm.trans sample'
  rfl

theorem Coherent.tOut_eq (valid : s.tOut = some v) : v = compT (fineTempOf c r) := by
  obtain ⟨tf, tFine, rfl⟩ := coherent.tOut v valid
  rw [coherent.tFine_eq cal sample tFine]

theorem Coherent.pOut_eq (valid : s.pOut = some v) : v = compPOf c r (fineTempOf c r) := by
  obtain ⟨c', r', tf, cal', sample', tFine, rfl⟩ := coherent.pOut v valid
  cases cal.symm.trans cal'
  cases sample.symm.trans sample'
  rw [coherent.tFine_eq cal sample tFine]

theorem Coherent.hOut_eq (valid : s.hOut = some v) : v = compHOf c r (fineTempOf c r) := by
  obtain ⟨c', r', tf, cal', sample', tFine, rfl⟩ := coherent.hOut v valid
  cases cal.symm.trans cal'
  cases sample.symm.trans sample'
  rw [coherent.tFine_eq cal sample tFine]

end

/-- Without a CAL nothing has been computed: LOAD_CAL finds no result that it could make wrong. -/
theorem Coherent.no_results_of_no_cal (coherent : Coherent s) (no_cal : s.cal = none) :
    s.tFine = none ∧ s.tOut = none ∧ s.pOut = none ∧ s.hOut = none := by
  have tFine : s.tFine = none := Option.eq_none_iff_forall_ne_some.2 fun v valid => by
    obtain ⟨c, r, cal, -, -⟩ := coherent.tFine v valid
    simp [no_cal] at cal
  refine ⟨tFine, ?_, ?_, ?_⟩ <;> refine Option.eq_none_iff_forall_ne_some.2 fun v valid => ?_
  · obtain ⟨tf, fresh, -⟩ := coherent.tOut v valid
    simp [tFine] at fresh
  · obtain ⟨c, r, tf, cal, -⟩ := coherent.pOut v valid
    simp [no_cal] at cal
  · obtain ⟨c, r, tf, cal, -⟩ := coherent.hOut v valid
    simp [no_cal] at cal

/-! ### The invariant -/

/-- Settles O38. A loading command leaves no result behind that is not current: LOAD_SAMPLE makes them all stale, LOAD_CAL
finds none. A compute command rewrites T_FINE, if at all, with the value a valid one had already, so the outputs it does not
write stay current. -/
theorem validRegistersStayCurrent : Obligations.ValidRegistersStayCurrent := by
  intro s t coherent h
  cases step_effect h with
  | keep same => exact coherent_of_sameRegisters same coherent
  | reset => exact coherent_of_no_results rfl rfl rfl rfl
  | fault => exact ⟨coherent.tFine, coherent.tOut, coherent.pOut, coherent.hOut⟩
  | loadCal _ no_cal =>
    obtain ⟨tFine, tOut, pOut, hOut⟩ := coherent.no_results_of_no_cal no_cal
    exact coherent_of_no_results tFine tOut pOut hOut
  | loadSample => exact coherent_of_no_results rfl rfl rfl rfl
  | compT _ cal sample =>
    refine coherent_of_current cal sample rfl (by simp) ?_ ?_
    · exact fun _ valid => coherent.pOut_eq cal sample valid
    · exact fun _ valid => coherent.hOut_eq cal sample valid
  | compP _ cal sample tFine =>
    cases coherent.tFine_eq cal sample tFine
    refine coherent_of_current cal sample tFine ?_ (by simp) ?_
    · exact fun _ valid => coherent.tOut_eq cal sample valid
    · exact fun _ valid => coherent.hOut_eq cal sample valid
  | compH _ cal sample tFine =>
    cases coherent.tFine_eq cal sample tFine
    refine coherent_of_current cal sample tFine ?_ ?_ (by simp)
    · exact fun _ valid => coherent.tOut_eq cal sample valid
    · exact fun _ valid => coherent.pOut_eq cal sample valid
  | compAll _ cal sample => exact coherent_of_current cal sample rfl (by simp) (by simp) (by simp)

/-- Settles O39: after reset every register is absent. -/
theorem resetStateIsCoherent : Obligations.ResetStateIsCoherent := coherent_of_no_results rfl rfl rfl rfl

end Sys2Proof.Safety
end

section
/-! SUPPORT. STATUS bit by bit (R40), the range of FCODE (R200), and with what a step does to each register, what changes
STATUS (O1, O8). -/

namespace Sys2Proof.Machine

open Safety

variable {s t : State}

/-! ### The layout of STATUS -/

/-- The rows of R40 as data: what bit `k` of STATUS holds. -/
def statusBit (s : State) : Nat → Bool
  | 0 => s.calValid
  | 1 => s.sampleValid
  | 2 => s.tfineValid
  | 3 => s.tValid
  | 4 => s.pValid
  | 5 => s.hValid
  | 6 | 7 => false
  | 8 => s.halted
  | 9 => s.fcode.getLsbD 0
  | 10 => s.fcode.getLsbD 1
  | 11 => s.fcode.getLsbD 2
  | _ + 12 => false

theorem status_getLsbD (s : State) (k : Nat) : s.status.getLsbD k = statusBit s k := by
  unfold State.status
  repeat rw [BitVec.getLsbD_append]
  fun_cases statusBit s k <;> simp

theorem status_reserved_low (s : State) : s.status.extractLsb' 6 2 = 0 := by
  ext i hi
  rw [BitVec.getElem_extractLsb', status_getLsbD]
  obtain rfl | rfl : i = 0 ∨ i = 1 := by omega
  all_goals simp [statusBit]

theorem status_fcode (s : State) : s.status.extractLsb' 9 3 = s.fcode := by
  ext i hi
  rw [BitVec.getElem_extractLsb', status_getLsbD]
  obtain rfl | rfl | rfl : i = 0 ∨ i = 1 ∨ i = 2 := by omega
  all_goals rfl

theorem status_reserved_high (s : State) : s.status.extractLsb' 12 4 = 0 := by
  ext i hi
  rw [BitVec.getElem_extractLsb', status_getLsbD, Nat.add_comm]
  simp [statusBit]

/-! ### FCODE -/

theorem faultNumber_ne_zero (code : FaultCode) : faultNumber code ≠ 0 := by cases code <;> decide

theorem faultNumber_le (code : FaultCode) : (faultNumber code).toNat ≤ 5 := by cases code <;> decide

theorem fcode_none (running : s.fault = none) : s.fcode = 0 := by simp [State.fcode, running]

theorem fcode_some {code : FaultCode} (faulted : s.fault = some code) : s.fcode = faultNumber code := by
  simp [State.fcode, faulted]

theorem fcode_le (s : State) : s.fcode.toNat ≤ 5 := by
  cases fault : s.fault with
  | none => simp [fcode_none fault]
  | some code => rw [fcode_some fault]; exact faultNumber_le code

theorem fcode_eq_zero_iff (s : State) : s.fcode = 0 ↔ s.fault = none := by
  cases fault : s.fault with
  | none => simp [fcode_none fault]
  | some code => rw [fcode_some fault]; exact iff_of_false (faultNumber_ne_zero code) (by simp)

/-- The first fault's code stands until reset (R40). -/
theorem fcode_kept (h : step s = .next t) (faulted : s.fcode ≠ 0) : t.fcode = s.fcode ∨ ResetNext s := by
  cases step_fault h with
  | keep same => exact .inl (by simp only [State.fcode, same])
  | clear _ reset => exact .inr reset
  | write _ cause => exact absurd (fcode_none cause.1) faulted

/-! ### The statements -/

/-- Settles O1. -/
theorem resetStateHoldsNothing : Obligations.ResetStateHoldsNothing := ⟨by decide, rfl, rfl, rfl, rfl, rfl, rfl⟩

theorem read_keeps_status {sel : BitVec 3} {rest : List HostAction} (h : step s = .next t)
    (read : s.pending = .read sel :: rest) : t.status = s.status := by
  cases (step_read read).symm.trans h
  rfl

theorem idle_keeps_status (h : step s = .next t) (idle : s.pending = []) : t.status = s.status := by
  cases (step_idle idle).symm.trans h
  rfl

/-- Settles O8: a bit of STATUS is the presence of its register's value (FAULT: of a code), so it rises by a write of the
register and falls by what clears it. -/
theorem statusFieldsAndWhatChangesThem : Obligations.StatusFieldsAndWhatChangesThem := by
  refine ⟨resetStateHoldsNothing.1, fun s => ?layout, fun s t h => ?changes⟩
  case layout =>
    exact ⟨status_getLsbD s 0, status_getLsbD s 1, status_getLsbD s 2, status_getLsbD s 3, status_getLsbD s 4,
      status_getLsbD s 5, status_reserved_low s, status_getLsbD s 8, status_fcode s, status_reserved_high s, fcode_le s,
      (not_halted_iff s).trans (fcode_eq_zero_iff s).symm⟩
  case changes =>
    simp only [Rises, Falls, status_getLsbD]
    exact
      ⟨fun rise => let ⟨_, _, _, presents, _⟩ := (step_cal h).written_of_rise rise; commandNext_of_presents presents (by simp),
        (step_cal h).clears_of_fall,
        fun rise => let ⟨_, _, _, presents, _⟩ := (step_sample h).written_of_rise rise; commandNext_of_presents presents (by simp),
        (step_sample h).clears_of_fall,
        fun rise => let ⟨_, command, _⟩ := (step_tFine h).written_of_rise rise; command, (step_tFine h).clears_of_fall,
        fun rise => let ⟨_, command, _⟩ := (step_tOut h).written_of_rise rise; command, (step_tOut h).clears_of_fall,
        fun rise => let ⟨_, command, _⟩ := (step_pOut h).written_of_rise rise; command, (step_pOut h).clears_of_fall,
        fun rise => let ⟨_, command, _⟩ := (step_hOut h).written_of_rise rise; command, (step_hOut h).clears_of_fall,
        fun rise => let ⟨_, _, presents⟩ := (step_fault h).written_of_rise rise; presents, (step_fault h).clears_of_fall,
        fcode_kept h, fun _ _ => read_keeps_status h, idle_keeps_status h⟩

end Sys2Proof.Machine
end

section
/-! SUPPORT. Every step answers a next state, so a list of interactions runs to its end; a property that each step without a
reset keeps holds there. CAL's immutability (O10, R35) is one such property. -/

namespace Sys2Proof.Machine

open Safety

variable {s : State}

/-! ### Every step answers -/

theorem withCalAndSample_answers {k : CalibrationSet → RawSample → Result} (answers : ∀ c r, ∃ t, k c r = .next t) :
    ∃ t, withCalAndSample s k = .next t := by
  cases cal : s.cal with
  | none => exact ⟨_, withCalAndSample_noCal cal⟩
  | some c =>
    cases sample : s.sample with
    | none => exact ⟨_, withCalAndSample_noSample cal sample⟩
    | some r => rw [withCalAndSample_both cal sample]; exact answers c r

theorem withFreshTFine_answers {k : CalibrationSet → RawSample → Word → Result}
    (answers : ∀ c r tf, ∃ t, k c r tf = .next t) : ∃ t, withFreshTFine s k = .next t :=
  withCalAndSample_answers fun c r => by
    cases s.tFine with
    | none => exact ⟨_, rfl⟩
    | some tf => exact answers c r tf

theorem execLoadCal_valid {c : CalibrationSet} (cal : s.cal = some c) : execLoadCal s = .next (s.raiseFault .calReload) := by
  simp [execLoadCal, State.calValid, cal, takeFault]

theorem execLoadCal_empty (cal : s.cal = none) : execLoadCal s = .next (s.writeCal s.ports.calIn) := by
  simp [execLoadCal, State.calValid, cal]

theorem exec_answers (i : Instr) (s : State) : ∃ t, exec i s = .next t := by
  cases i with
  | nop => exact ⟨_, rfl⟩
  | loadCal =>
    cases cal : s.cal with
    | none => exact ⟨_, execLoadCal_empty cal⟩
    | some c => exact ⟨_, execLoadCal_valid cal⟩
  | loadSample => exact ⟨_, rfl⟩
  | compT => exact withCalAndSample_answers fun _ _ => ⟨_, rfl⟩
  | compP => exact withFreshTFine_answers fun _ _ _ => ⟨_, rfl⟩
  | compH => exact withFreshTFine_answers fun _ _ _ => ⟨_, rfl⟩
  | compAll => exact withCalAndSample_answers fun _ _ => ⟨_, rfl⟩

theorem runCommand_answers (cmd : Byte) (s : State) : ∃ t, runCommand cmd s = .next t := by
  cases halted : s.halted with
  | true => exact ⟨_, runCommand_halted halted⟩
  | false =>
    cases decoded : decode cmd with
    | error e => exact ⟨_, runCommand_illegal halted decoded⟩
    | ok i => rw [runCommand_legal halted decoded]; exact exec_answers i s

theorem step_answers (s : State) : ∃ t, step s = .next t := by
  match pending : s.pending with
  | [] => exact ⟨_, step_idle pending⟩
  | .reset :: rest => exact ⟨_, step_reset pending⟩
  | .read sel :: rest => exact ⟨_, step_read pending⟩
  | .command cmd p :: rest => rw [step_command pending]; exact runCommand_answers cmd _

/-! ### Runs without a reset -/

theorem not_resetNext {a : HostAction} {rest : List HostAction} (pending : s.pending = a :: rest) (noReset : NoReset a) :
    ¬ ResetNext s := by
  rintro ⟨rest', reset⟩
  exact noReset (List.cons.inj (pending.symm.trans reset)).1

/-- A property that every step keeps, unless it takes a reset, holds at the end of any list of interactions without a
reset. -/
theorem runsTo_of_step_keeps {P : State → Prop} (keeps : ∀ s t, P s → ¬ ResetNext s → step s = .next t → P t)
    (acts rest : List HostAction) (s : State) (holds : P s) (pending : s.pending = acts ++ rest)
    (noReset : ∀ a ∈ acts, NoReset a) : ∃ t, RunsTo acts.length s t ∧ P t ∧ t.pending = rest := by
  induction acts generalizing s with
  | nil => exact ⟨s, core_run_zero, holds, pending⟩
  | cons a acts ih =>
    obtain ⟨u, h⟩ := step_answers s
    have not_reset := not_resetNext pending (noReset a (by simp))
    have pending_next : u.pending = acts ++ rest := by rw [step_pending h, pending]; rfl
    obtain ⟨t, run, result⟩ := ih u (keeps s u holds not_reset h) pending_next fun b mem => noReset b (by simp [mem])
    exact ⟨t, (core_run_succ h).trans run, result⟩

theorem step_keeps_cal {t : State} {c : CalibrationSet} (cal : s.cal = some c) (not_reset : ¬ ResetNext s)
    (h : step s = .next t) : t.cal = some c := by
  cases step_cal h with
  | keep same => exact same.trans cal
  | clear _ reset => exact absurd reset not_reset
  | write _ cause =>
    obtain ⟨_, _, -, no_cal, -⟩ := cause
    simp [cal] at no_cal

/-- Settles O10, by the one-step lemma and the induction over the interactions. -/
theorem calibrationIsImmutableUntilReset : Obligations.CalibrationIsImmutableUntilReset := by
  refine ⟨fun s c cal => execLoadCal_valid cal, fun acts rest s c cal pending noReset => ?_⟩
  obtain ⟨t, run, kept, -⟩ :=
    runsTo_of_step_keeps (P := fun u => u.cal = some c) (fun _ _ => step_keeps_cal) acts rest s cal pending noReset
  exact ⟨t, run, kept⟩

end Sys2Proof.Machine
end

section
/-! SUPPORT. The read port (R60, R61): what each select returns, and that a read leaves the port as it was, so a list of reads
answers from the first state (O11). With it the step with nothing pending (O4). -/

namespace Sys2Proof.Machine

open Safety

/-! ### The table of the read port -/

theorem bitsOrFree_valid {reg : Option Word} {v : Word} (valid : reg = some v) (s : State) (select : BitVec 3) :
    s.bitsOrFree select reg = v := by
  rw [State.bitsOrFree, valid, Option.getD_some]

theorem readPort_status (s : State) : s.readPort 0b000 = s.status.setWidth 32 := rfl

theorem readPort_tFine (s : State) : s.readPort 0b001 = s.bitsOrFree 0b001 s.tFine := rfl

theorem readPort_tOut (s : State) : s.readPort 0b010 = s.bitsOrFree 0b010 s.tOut := rfl

theorem readPort_pOut (s : State) : s.readPort 0b011 = s.bitsOrFree 0b011 s.pOut := rfl

theorem readPort_hOut (s : State) : s.readPort 0b100 = s.bitsOrFree 0b100 s.hOut := rfl

theorem readPort_unused (s : State) {select : BitVec 3} (unused : 0b100 < select) : s.readPort select = 0 := by
  have beyond (used : BitVec 3) (le : used ≤ 0b100) : select ≠ used := fun eq => BitVec.not_le.2 unused (eq ▸ le)
  simp [State.readPort, beyond]

/-! ### Reads in a row -/

/-- The port's value depends on no field that a read changes, the free value's index included. -/
@[simp] theorem readPort_answerRead (s : State) (rest : List HostAction) (sel : BitVec 3) :
    ((s.withPending rest).answerRead sel).readPort = s.readPort := rfl

theorem runsTo_reads (selects : List (BitVec 3)) (rest : List HostAction) (s : State)
    (pending : s.pending = selects.map HostAction.read ++ rest) :
    RunsTo selects.length s
      { s with pending := rest, received := (selects.map s.readPort).reverse ++ s.received } := by
  induction selects generalizing s with
  | nil =>
    obtain rfl : s.pending = rest := pending
    exact core_run_zero
  | cons sel selects ih =>
    have first := step_read pending
    have others := ih ((s.withPending (selects.map HostAction.read ++ rest)).answerRead sel) rfl
    rw [readPort_answerRead] at others
    have newest_first : ((sel :: selects).map s.readPort).reverse ++ s.received =
        (selects.map s.readPort).reverse ++ s.readPort sel :: s.received := by simp
    rw [newest_first]
    exact (core_run_succ first).trans others

/-! ### The statements -/

/-- Settles O11, by induction on the list of reads: each read leaves the port's value for the next one as it was. -/
theorem readPortIsPureAndRepeatable : Obligations.ReadPortIsPureAndRepeatable := by
  refine ⟨fun s select rest read => step_read read, fun s => ?table, runsTo_reads⟩
  case table =>
    exact ⟨readPort_status s, fun _ valid => (readPort_tFine s).trans (bitsOrFree_valid valid s _),
      fun _ valid => (readPort_tOut s).trans (bitsOrFree_valid valid s _),
      fun _ valid => (readPort_pOut s).trans (bitsOrFree_valid valid s _),
      fun _ valid => (readPort_hOut s).trans (bitsOrFree_valid valid s _),
      readPort_unused s (by decide), readPort_unused s (by decide), readPort_unused s (by decide)⟩

/-- Settles O4: the step rule for an empty list of interactions. -/
theorem idleBlockDoesNothing : Obligations.IdleBlockDoesNothing := fun _ idle => step_idle idle

end Sys2Proof.Machine
end

section
/-! SUPPORT. The numbers that the sensor's bytes make (R73): juxtaposed bit strings are base-`2 ^ n` digits. The statement O16
is assembled from these rules. -/

namespace Sys2Proof.Machine

theorem toNat_append_eq_mul_add {m n : Nat} (hi : BitVec m) (lo : BitVec n) :
    (hi ++ lo).toNat = hi.toNat * 2 ^ n + lo.toNat := by
  rw [BitVec.toNat_append, ← Nat.shiftLeft_add_eq_or_of_lt lo.isLt, Nat.shiftLeft_eq]

theorem toNat_lowNibble (b : Byte) : (b.extractLsb' 0 4).toNat = b.toNat % 16 := by
  simp [BitVec.extractLsb'_toNat]

theorem toNat_highNibble (b : Byte) : (b.extractLsb' 4 4).toNat = b.toNat / 16 := by
  have below : b.toNat / 16 < 16 := by omega
  rw [BitVec.extractLsb'_toNat, Nat.shiftRight_eq_div_pow]
  exact Nat.mod_eq_of_lt below

/-- A count of 20 bits: two bytes and the top half of a third, big-endian. -/
theorem toNat_count20 (b0 b1 b2 : Byte) :
    (b0 ++ b1 ++ b2.extractLsb' 4 4).toNat = b0.toNat * 4096 + b1.toNat * 16 + b2.toNat / 16 := by
  rw [toNat_append_eq_mul_add, toNat_append_eq_mul_add, toNat_highNibble]
  omega

theorem toNat_calPair (c : Nat → Byte) (i : Nat) : (calPair c i).toNat = (c (i + 1)).toNat * 256 + (c i).toNat :=
  toNat_append_eq_mul_add (c (i + 1)) (c i)

theorem toNat_rawH4 (c : Nat → Byte) : (rawH4 c).toNat = (c 0xE4).toNat * 16 + (c 0xE5).toNat % 16 := by
  simp only [rawH4, toNat_append_eq_mul_add, toNat_lowNibble, Nat.reducePow]

theorem toNat_rawH5 (c : Nat → Byte) : (rawH5 c).toNat = (c 0xE6).toNat * 16 + (c 0xE5).toNat / 16 := by
  simp only [rawH5, toNat_append_eq_mul_add, toNat_highNibble, Nat.reducePow]

/-- No constant reads the byte 0xA0, which lies between dig_P9 and dig_H1. -/
theorem calFromBytes_congr (extend : BitVec 12 → BitVec 16) {c c' : Nat → Byte} (agree : ∀ i, i ≠ 0xA0 → c i = c' i) :
    calFromBytes extend c = calFromBytes extend c' := by
  simp [calFromBytes, calPair, rawH4, rawH5, agree]

/-- Settles O16: every constant is one of R73's forms at its own address. -/
theorem sensorBytesGoWhereTheLayoutSays : Obligations.SensorBytesGoWhereTheLayoutSays := by
  refine ⟨fun d => ?counts, toNat_calPair, fun c => ⟨toNat_rawH4 c, toNat_rawH5 c⟩, fun extend c => ?constants⟩
  case counts =>
    exact ⟨toNat_count20 (d 0) (d 1) (d 2), toNat_count20 (d 3) (d 4) (d 5), toNat_append_eq_mul_add (d 6) (d 7)⟩
  case constants =>
    have pair := toNat_calPair c
    exact ⟨pair 0x88, pair 0x8A, pair 0x8C, pair 0x8E, pair 0x90, pair 0x92, pair 0x94, pair 0x96, pair 0x98, pair 0x9A,
      pair 0x9C, pair 0x9E, rfl, pair 0xE1, rfl, rfl, rfl, rfl,
      fun unused => calFromBytes_congr extend fun _ elsewhere => if_neg elsewhere⟩

end Sys2Proof.Machine
end

section
/-! SUPPORT. The decoder in two rules, one for each value its check of RSV can have (R81), what a reserved byte does to a block
that is not halted (R84), and the two round trips. The statements O13 and O12 are assembled from these rules. -/

namespace Sys2Proof.Machine

open Safety

variable {b : Byte}

/-! ### The fields of a byte as numbers (R80) -/

theorem toNat_opField (b : Byte) : (opField b).toNat = b.toNat % 8 := by
  simp [opField, BitVec.extractLsb'_toNat]

theorem toNat_rsvField (b : Byte) : (rsvField b).toNat = b.toNat / 8 := by
  have below : b.toNat / 8 < 32 := by omega
  rw [rsvField, BitVec.extractLsb'_toNat, Nat.shiftRight_eq_div_pow]
  exact Nat.mod_eq_of_lt below

theorem rsvField_ne_zero (beyond : 8 ≤ b.toNat) : rsvField b ≠ 0 := by
  intro rsv_zero
  have quotient : 0 = b.toNat / 8 := (congrArg BitVec.toNat rsv_zero).symm.trans (toNat_rsvField b)
  omega

/-! ### Legal bytes (R81) -/

theorem decode_of_rsvField_eq_zero (rsv_zero : rsvField b = 0) : decode b = decodeOp (opField b) := if_pos rsv_zero

theorem decode_of_rsvField_ne_zero (rsv : rsvField b ≠ 0) : decode b = .error .reservedBits := if_neg rsv

/-- The OP column of R83 leaves out 0b111 alone. -/
theorem eq_seven_of_decodeOp_error {op : BitVec 3} {e : DecodeError} (unnamed : decodeOp op = .error e) : op = 7 := by
  revert unnamed
  cases e <;> revert op <;> decide

theorem decodeOp_legal_iff (op : BitVec 3) : (∃ i, decodeOp op = .ok i) ↔ op ≠ 7 := by
  constructor
  · rintro ⟨i, legal⟩ rfl
    cases legal
  · intro named
    cases decoded : decodeOp op with
    | ok i => exact ⟨i, rfl⟩
    | error e => exact absurd (eq_seven_of_decodeOp_error decoded) named

theorem decode_legal_iff (b : Byte) : (∃ i, decode b = .ok i) ↔ rsvField b = 0 ∧ opField b ≠ 7 := by
  by_cases rsv_zero : rsvField b = 0
  · rw [decode_of_rsvField_eq_zero rsv_zero, decodeOp_legal_iff, and_iff_right rsv_zero]
  · rw [decode_of_rsvField_ne_zero rsv_zero]
    exact iff_of_false (fun ⟨_, legal⟩ => nomatch legal) fun fields => rsv_zero fields.1

theorem decode_encode (i : Instr) : decode (encode i) = .ok i := by cases i <;> rfl

/-! ### Executing a reserved byte (R84) -/

theorem step_illegal {s : State} {p : Ports} {rest : List HostAction} {e : DecodeError} (presents : Presents s b p rest)
    (running : s.halted = false) (illegal : decode b = .error e) :
    step s = .next ((accepted s p rest).raiseFault .illegalCmd) :=
  (step_command presents).trans (runCommand_illegal running illegal)

/-! ### The statements -/

/-- Settles O13: the check of RSV and then the OP column decide whether a byte is legal; a byte that decodes to no command
decodes to an error, which the frame of R203 turns into the fault. -/
theorem legalBytesAreTheEncodings : Obligations.LegalBytesAreTheEncodings := by
  refine ⟨fun b => ⟨toNat_rsvField b, toNat_opField b⟩, decode_legal_iff,
    fun s b p rest presents running not_legal => ?fault, decode_encode, fun _ _ => encode_of_decode⟩
  case fault =>
    cases decoded : decode b with
    | ok i => exact absurd decoded (not_legal i)
    | error e => exact ⟨_, step_illegal presents running decoded, rfl, rfl⟩

/-- Settles O12: the map's rows are the encodings of the commands, and a byte from 8 up has reserved bits set. -/
theorem opcodeMapBytesDecode : Obligations.OpcodeMapBytesDecode :=
  ⟨decode_encode .nop, decode_encode .loadCal, decode_encode .loadSample, decode_encode .compT, decode_encode .compP,
    decode_encode .compH, decode_encode .compAll, rfl,
    fun _ beyond => decode_of_rsvField_ne_zero (rsvField_ne_zero beyond)⟩

end Sys2Proof.Machine
end

section
/-! SUPPORT. The assembler's line rule in its two cases (R85), and that a number in a field's range is what the field's bits
mean at its declared signedness (R11, R82). The statements O15 and O14 are assembled from these rules. -/

namespace Sys2Proof.Machine

variable {n : Nat} {v : Int}

/-! ### One line (R85, R86) -/

theorem assembleLine_outOfRange {l : Line} (idle : Ports) (ill_formed : l.wf = false) :
    assembleLine idle l = .error .outOfRange := by
  simp [assembleLine, ill_formed]

theorem assembleLine_inRange {l : Line} (idle : Ports) (well_formed : l.wf = true) :
    assembleLine idle l = .ok (expandLine idle l) := by
  simp [assembleLine, well_formed]

/-! ### A field's value (R11) -/

theorem fitsUnsigned_iff (n : Nat) (v : Int) : fitsUnsigned n v = true ↔ 0 ≤ v ∧ v < 2 ^ n := by
  simp [fitsUnsigned]

theorem fitsSigned_iff (n : Nat) (v : Int) : fitsSigned n v = true ↔ -(2 ^ n) ≤ v ∧ v < 2 ^ n := by
  simp [fitsSigned]

theorem toNat_ofInt_of_fitsUnsigned (fits : fitsUnsigned n v = true) : ((BitVec.ofInt n v).toNat : Int) = v := by
  obtain ⟨nonneg, below⟩ := (fitsUnsigned_iff n v).1 fits
  rw [BitVec.toNat_ofInt, Nat.cast_pow, Nat.cast_ofNat, Int.emod_eq_of_lt nonneg below, Int.toNat_of_nonneg nonneg]

theorem toInt_ofInt_of_fitsSigned (fits : fitsSigned n v = true) : (BitVec.ofInt (n + 1) v).toInt = v := by
  obtain ⟨above, below⟩ := (fitsSigned_iff n v).1 fits
  exact BitVec.toInt_ofInt_eq_self n.succ_pos above below

/-! ### The statements -/

/-- Settles O15: both cases of the line rule, and a field's value for each of the 21 fields (R33, R36). -/
theorem assemblerRangeChecksAndKeepsValues : Obligations.AssemblerRangeChecksAndKeepsValues := by
  refine ⟨fun idle _ => assembleLine_outOfRange idle,
    fun idle _ well_formed => ⟨_, assembleLine_inRange idle well_formed⟩,
    fun idle _ in_range => assembleLine_inRange idle in_range,
    fun idle _ in_range => assembleLine_inRange idle in_range,
    fun idle => ⟨rfl, rfl, rfl, rfl, rfl, rfl, rfl, rfl, rfl, rfl, rfl⟩,
    fun _ in_range => ?counts, fun _ in_range => ?constants⟩
  case counts =>
    simp only [SampleOperands.wf, Bool.and_eq_true, and_assoc] at in_range
    obtain ⟨P, T, H⟩ := in_range
    exact ⟨toNat_ofInt_of_fitsUnsigned P, toNat_ofInt_of_fitsUnsigned T, toNat_ofInt_of_fitsUnsigned H⟩
  case constants =>
    simp only [CalOperands.wf, Bool.and_eq_true, and_assoc] at in_range
    obtain ⟨T1, T2, T3, P1, P2, P3, P4, P5, P6, P7, P8, P9, H1, H2, H3, H4, H5, H6⟩ := in_range
    exact ⟨toNat_ofInt_of_fitsUnsigned T1, toInt_ofInt_of_fitsSigned T2, toInt_ofInt_of_fitsSigned T3,
      toNat_ofInt_of_fitsUnsigned P1, toInt_ofInt_of_fitsSigned P2, toInt_ofInt_of_fitsSigned P3,
      toInt_ofInt_of_fitsSigned P4, toInt_ofInt_of_fitsSigned P5, toInt_ofInt_of_fitsSigned P6,
      toInt_ofInt_of_fitsSigned P7, toInt_ofInt_of_fitsSigned P8, toInt_ofInt_of_fitsSigned P9,
      toNat_ofInt_of_fitsUnsigned H1, toInt_ofInt_of_fitsSigned H2, toNat_ofInt_of_fitsUnsigned H3,
      toInt_ofInt_of_fitsSigned H4, toInt_ofInt_of_fitsSigned H5, toInt_ofInt_of_fitsSigned H6⟩

/-- Settles O14: READING is a line like the others, and its expansion is the two commands. -/
theorem readingExpandsToTwoCommands : Obligations.ReadingExpandsToTwoCommands := fun idle _ in_range =>
  assembleLine_inRange idle in_range

end Sys2Proof.Machine
end

section
/-! SUPPORT. What the writes of the loading commands do to STATUS (R102, R105), and that with dig_P1 = 0 the pressure unit takes
its zero-divisor guard (R143). The statements O18, O19 and O20 are assembled from these rules. -/

namespace Sys2Proof.Machine

open Safety

variable {c : CalibrationSet}

/-! ### STATUS after a load -/

/-- STATUS is determined by what R40 lists for each of its bits. -/
theorem status_eq_of_bits {s : State} {v : BitVec 16} (bits : ∀ k, k < 16 → statusBit s k = v.getLsbD k) : s.status = v :=
  BitVec.eq_of_getLsbD_eq fun k below => (status_getLsbD s k).trans (bits k below)

theorem status_writeCal (s : State) (c : CalibrationSet) : (s.writeCal c).status = s.status ||| 0x0001 := by
  refine status_eq_of_bits fun k _ => ?_
  rw [BitVec.getLsbD_or, status_getLsbD]
  fun_cases statusBit s k
  all_goals simp [statusBit, State.calValid, State.sampleValid, State.tfineValid, State.tValid, State.pValid, State.hValid,
    State.halted, State.fcode]

theorem status_writeSample (s : State) (r : RawSample) : (s.writeSample r).status = (s.status &&& 0xFFC3) ||| 0x0002 := by
  have sets_bit_one : (0x0002 : BitVec 16) = BitVec.twoPow 16 1 := rfl
  refine status_eq_of_bits fun k _ => ?_
  rw [BitVec.getLsbD_or, BitVec.getLsbD_and, status_getLsbD, sets_bit_one, BitVec.getLsbD_twoPow]
  fun_cases statusBit s k
  all_goals simp [statusBit, State.calValid, State.sampleValid, State.tfineValid, State.tValid, State.pValid, State.hValid,
    State.halted, State.fcode]

/-! ### NOP (R100) -/

theorem runCommand_nop (s : State) : runCommand 0x00 s = .next s := by
  cases halted : s.halted with
  | true => exact runCommand_halted halted
  | false => exact runCommand_legal halted (decode_encode .nop)

/-- Settles O18: a halted block ignores the byte, and the rule of a running one answers the state as it is. -/
theorem nopHasNoEffect : Obligations.NopHasNoEffect :=
  ⟨rfl, fun _ => rfl, fun s p rest presents => (step_command presents).trans (runCommand_nop (accepted s p rest))⟩

/-! ### LOAD_CAL (R102) -/

theorem pressureDivisor_digP1_zero (tf P2 P3 : Word) : pressureDivisor tf 0 P2 P3 = 0 := by
  have product_zero : (32768 + pressureScale tf P2 P3) * 0 = 0 := BitVec.mul_zero
  rw [pressureDivisor, product_zero]
  rfl

theorem compP_of_divisor_zero {adc tf P1 P2 P3 : Word} (zero : pressureDivisor tf P1 P2 P3 = 0)
    (P4 P5 P6 P7 P8 P9 : Word) : compP adc tf P1 P2 P3 P4 P5 P6 P7 P8 P9 = 0 := if_pos zero

theorem compPOf_digP1_zero (no_P1 : c.dig_P1 = 0) (r : RawSample) (tf : Word) : compPOf c r tf = 0 := by
  have divisor_zero : pressureDivisor tf (digP1 c) (digP2 c) (digP3 c) = 0 := by
    rw [digP1, no_P1]
    exact pressureDivisor_digP1_zero tf _ _
  exact compP_of_divisor_zero divisor_zero _ _ _ _ _ _

/-- Settles O19: the command's two cases, and STATUS after the one that writes. -/
theorem loadCalWritesCalibrationOnce : Obligations.LoadCalWritesCalibrationOnce := by
  refine ⟨rfl, fun _ no_cal => execLoadCal_empty no_cal, fun _ _ cal => execLoadCal_valid cal,
    fun s t no_cal h => ?status, fun _ r tf no_P1 => compPOf_digP1_zero no_P1 r tf, fun p T3 => ?worked⟩
  case status =>
    cases (execLoadCal_empty no_cal).symm.trans h
    exact status_writeCal s _
  case worked =>
    refine ⟨_, p.calIn, execLoadCal_empty rfl, ?_, rfl, T3⟩
    have status_before : State.status { State.reset with ports := p } = 0x0000 := resetStateHoldsNothing.1
    rw [status_writeCal, status_before]
    rfl

/-! ### LOAD_SAMPLE (R105) -/

/-- Settles O20: the command has one case, and its example is the mask's value at 0x003F. -/
theorem loadSampleMakesResultsStale : Obligations.LoadSampleMakesResultsStale := by
  have status_after (s t : State) (h : exec .loadSample s = .next t) : t.status = (s.status &&& 0xFFC3) ||| 0x0002 := by
    rw [execLoadSample_next h, status_writeSample]
  refine ⟨rfl, fun _ => rfl, status_after, fun s t all_valid h => ?worked⟩
  case worked =>
    rw [status_after s t h, all_valid]
    rfl

end Sys2Proof.Machine
end

section
/-! SUPPORT. The wraps of the exact-integer reference (R15), and how the datapath's operands and left shift read as integers
(R12, R19, R33, R36): with the rules of R15 and R17 above, what carries a formula over words to the formula over integers. -/

namespace Sys2Proof.Reference

theorem s32_eq_self_iff (x : Int) : s32 x = x ↔ -2 ^ 31 ≤ x ∧ x < 2 ^ 31 :=
  ⟨fun fixed => fixed ▸ s32_range x, fun ⟨low, high⟩ => s32_of_range low high⟩

/-- A wrap inside a sum that is wrapped itself makes no difference. -/
theorem s32_s32_add (x y : Int) : s32 (s32 x + y) = s32 (x + y) := by
  simp only [s32_eq_bmod, Int.bmod_add_bmod]

/-- 46341 is the least magnitude whose square leaves the s32 range. -/
theorem s32_mul_self_ne_iff (x : Int) : s32 (x * x) ≠ x * x ↔ 46341 ≤ |x| := by
  have square : x * x = |x| * |x| := (abs_mul_abs_self x).symm
  have nonneg : 0 ≤ |x| := abs_nonneg x
  have square_nonneg : 0 ≤ |x| * |x| := mul_nonneg nonneg nonneg
  rw [Ne, s32_eq_self_iff, square]
  constructor
  · intro wraps
    by_contra! small
    have fits : |x| * |x| ≤ 46340 * 46340 := mul_self_le_mul_self nonneg (by omega)
    exact wraps ⟨by omega, by omega⟩
  · rintro large ⟨-, fits⟩
    have too_large : 46341 * 46341 ≤ |x| * |x| := mul_self_le_mul_self (by decide) large
    omega

end Sys2Proof.Reference

namespace Sys2Proof.Machine

theorem toInt_shl_eq_s32 (a : Word) (k : Nat) : (shl a k).toInt = Reference.s32 (a.toInt * 2 ^ k) := by
  rw [shl, BitVec.toInt_shiftLeft, Reference.s32_eq_bmod, BitVec.toInt_eq_toNat_bmod, Int.bmod_mul_bmod,
    Nat.shiftLeft_eq]
  push_cast
  rfl

theorem toInt_zext32 {n : Nat} (narrow : n ≤ 31) (v : BitVec n) : (zext32 v).toInt = v.toNat := by
  have below : v.toNat < 2 ^ 31 := v.isLt.trans_le (Nat.pow_le_pow_right (by decide) narrow)
  rw [zext32, BitVec.toInt_setWidth, ← Reference.s32_eq_bmod]
  exact Reference.s32_of_range (by omega) (by omega)

theorem toInt_sext32 {n : Nat} (narrow : n ≤ 32) (v : BitVec n) : (sext32 v).toInt = v.toInt :=
  BitVec.toInt_signExtend_of_le narrow

end Sys2Proof.Machine
end

section
/-! SUPPORT. `FineTemp` and `CompT` as formulas over integers (R121, R123), and COMP_T (R125). The statements O21 to O24 are
assembled from these rules. -/

namespace Sys2Proof.Machine

open Safety

variable {s t : State}

/-! ### FineTemp (R121) -/

/-- The datapath computes the reference's formula on all words, those outside the registers' ranges too. -/
theorem toInt_fineTemp (adcT T1 T2 T3 : Word) :
    (fineTemp adcT T1 T2 T3).toInt = Reference.fineTemp adcT.toInt T1.toInt T2.toInt T3.toInt := by
  simp only [fineTemp, Reference.fineTemp, Reference.shr, toInt_add_eq_s32, toInt_sub_eq_s32, toInt_mul_eq_s32, toInt_asr,
    toInt_shl_eq_s32, pow_one]

/-- For an ADC_T and a dig_T1 in their ranges the subtractions and the doubling of R121 do not wrap. -/
theorem reference_fineTemp_of_ranges {adcT T1 : Int} (adcT_nonneg : 0 ≤ adcT) (adcT_lt : adcT < 2 ^ 20) (T1_nonneg : 0 ≤ T1)
    (T1_lt : T1 < 2 ^ 16) (T2 T3 : Int) :
    Reference.fineTemp adcT T1 T2 T3 = Reference.s32
      (Reference.shr (Reference.s32 ((adcT / 8 - 2 * T1) * T2)) 11 +
        Reference.shr (Reference.s32 (Reference.shr (Reference.s32 ((adcT / 16 - T1) * (adcT / 16 - T1))) 12 * T3)) 14) := by
  have doubled : Reference.s32 (T1 * 2) = 2 * T1 := by
    rw [Reference.s32_of_range (by omega) (by omega), mul_comm]
  have a1_exact : Reference.s32 (Reference.shr adcT 3 - 2 * T1) = adcT / 8 - 2 * T1 :=
    Reference.s32_of_range (by unfold Reference.shr; omega) (by unfold Reference.shr; omega)
  have tmp_exact : Reference.s32 (Reference.shr adcT 4 - T1) = adcT / 16 - T1 :=
    Reference.s32_of_range (by unfold Reference.shr; omega) (by unfold Reference.shr; omega)
  simp only [Reference.fineTemp, doubled, a1_exact, tmp_exact]

/-- Settles O21: the datapath is the reference's formula, and the registers' ranges bound `a1` and `tmp`. -/
theorem fineTempIsTheIntegerFormula : Obligations.FineTempIsTheIntegerFormula := by
  intro adc T1 T2 T3 a1 tmp var1 var2
  have adc_lt := adc.isLt
  have T1_lt := T1.isLt
  refine ⟨?formula, by omega, by omega, by omega, by omega, Reference.s32_mul_self_ne_iff tmp, ?product⟩
  case formula =>
    rw [toInt_fineTemp, toInt_zext32 (by decide), toInt_zext32 (by decide), toInt_sext32 (by decide),
      toInt_sext32 (by decide)]
    exact reference_fineTemp_of_ranges (by omega) (by omega) (by omega) (by omega) _ _
  case product =>
    rw [Ne, Reference.s32_eq_self_iff]
    omega

/-- Settles O23: the counts' range bounds `a1` and `tmp`, these bound every later intermediate, and a value in the s32 range
is its own wrap. -/
theorem exampleConstantsDoNotWrap : Obligations.ExampleConstantsDoNotWrap := by
  intro adc low high a1 tmp m1 m3 sum
  have a1_low : -15796 ≤ a1 := by omega
  have a1_high : a1 ≤ 34052 := by omega
  have square_nonneg : 0 ≤ tmp * tmp := mul_self_nonneg tmp
  have magnitude : |tmp| ≤ 17026 := abs_le.2 ⟨by omega, by omega⟩
  have square_le : tmp * tmp ≤ 17026 * 17026 :=
    abs_mul_abs_self tmp ▸ mul_self_le_mul_self (abs_nonneg tmp) magnitude
  have m1_fits : -2 ^ 31 ≤ m1 ∧ m1 < 2 ^ 31 := by omega
  have m3_fits : -2 ^ 31 ≤ m3 ∧ m3 < 2 ^ 31 := by omega
  have sum_fits : -2 ^ 31 ≤ sum ∧ sum < 2 ^ 31 := by omega
  refine ⟨by omega, m1_fits, by omega, by omega, m3_fits, sum_fits, ?exact_formula⟩
  case exact_formula =>
    have m1_exact : Reference.s32 (a1 * 26435) = m1 := Reference.s32_of_range m1_fits.1 m1_fits.2
    have square_exact : Reference.s32 (tmp * tmp) = tmp * tmp := Reference.s32_of_range (by omega) (by omega)
    have m3_exact : Reference.s32 (tmp * tmp / 4096 * (-1000)) = m3 := Reference.s32_of_range m3_fits.1 m3_fits.2
    calc (fineTemp (zext32 adc) 27504 26435 (-1000)).toInt
        = Reference.fineTemp adc.toNat 27504 26435 (-1000) := by rw [toInt_fineTemp, toInt_zext32 (by decide)]; rfl
      _ = Reference.s32 (Reference.shr (Reference.s32 (a1 * 26435)) 11 +
            Reference.shr (Reference.s32 (Reference.shr (Reference.s32 (tmp * tmp)) 12 * (-1000))) 14) :=
          reference_fineTemp_of_ranges (by omega) (by omega) (by decide) (by decide) 26435 (-1000)
      _ = Reference.s32 sum := by
          rw [m1_exact, square_exact]
          exact congrArg (fun m => Reference.s32 (m1 / 2048 + m / 16384)) m3_exact
      _ = sum := Reference.s32_of_range sum_fits.1 sum_fits.2

/-! ### CompT (R123) -/

theorem toInt_compT (tf : Word) : (compT tf).toInt = Reference.compT tf.toInt := by
  rw [compT, toInt_asr, toInt_add_eq_s32, toInt_mul_eq_s32]
  rfl

/-- Settles O22: the inner wrap is absorbed by the outer one, which is none where `5 * t_fine + 128` fits. -/
theorem compTFloorsTowardMinusInfinity : Obligations.CompTFloorsTowardMinusInfinity := by
  refine ⟨toInt_compT, fun tf low high => ?floor, fun x => ?range⟩
  case floor =>
    rw [toInt_compT, Reference.compT, Reference.s32_s32_add, Reference.s32_of_range (by omega) (by omega), mul_comm]
    rfl
  case range => omega

/-! ### COMP_T (R125) -/

theorem execCompT_noCal (no_cal : s.cal = none) : execCompT s = .next (s.raiseFault .noCal) := withCalAndSample_noCal no_cal

section
variable {c : CalibrationSet} {r : RawSample} (cal : s.cal = some c)
include cal

theorem execCompT_noSample (no_sample : s.sample = none) : execCompT s = .next (s.raiseFault .noSample) :=
  withCalAndSample_noSample cal no_sample

theorem execCompT_both (sample : s.sample = some r) : execCompT s = .next (s.writeTemperature (fineTempOf c r)) :=
  withCalAndSample_both cal sample

end

theorem status_writeTemperature (s : State) (tf : Word) : (s.writeTemperature tf).status = s.status ||| 0x000C := by
  have sets_two_bits : (0x000C : BitVec 16) = BitVec.twoPow 16 2 ||| BitVec.twoPow 16 3 := rfl
  refine status_eq_of_bits fun k _ => ?_
  rw [BitVec.getLsbD_or, status_getLsbD, sets_two_bits, BitVec.getLsbD_or, BitVec.getLsbD_twoPow, BitVec.getLsbD_twoPow]
  fun_cases statusBit s k
  all_goals simp [statusBit, State.calValid, State.sampleValid, State.tfineValid, State.tValid, State.pValid, State.hValid,
    State.halted, State.fcode]

/-- Without a slope and a curvature the fine temperature is 0, whatever the count. -/
theorem fineTemp_zero_zero (adcT T1 : Word) : fineTemp adcT T1 0 0 = 0 := by
  have product_zero (w : Word) : w * 0 = 0 := BitVec.mul_zero
  simp only [fineTemp, product_zero]
  rfl

theorem fineTempOf_zero {c : CalibrationSet} (no_T2 : c.dig_T2 = 0) (no_T3 : c.dig_T3 = 0) (r : RawSample) :
    fineTempOf c r = 0 := by
  have T2_zero : digT2 c = 0 := by rw [digT2, no_T2]; rfl
  have T3_zero : digT3 c = 0 := by rw [digT3, no_T3]; rfl
  rw [fineTempOf, T2_zero, T3_zero, fineTemp_zero_zero]

/-- A second COMP_T meets the same checks on the same CAL and SAMPLE, so it takes the same fault or writes the same values. -/
theorem execCompT_idempotent (h : execCompT s = .next t) : execCompT t = .next t := by
  obtain ⟨no_cal, rfl⟩ | ⟨cal, no_sample, rfl⟩ | ⟨c, r, cal, sample, writes⟩ := withCalAndSample_next h
  · exact execCompT_noCal no_cal
  · obtain ⟨c, cal⟩ := Option.isSome_iff_exists.1 cal
    exact execCompT_noSample (s := s.raiseFault .noSample) cal no_sample
  · cases writes
    exact execCompT_both (s := s.writeTemperature _) cal sample

theorem tFine_of_coherent {c : CalibrationSet} {r : RawSample} (coherent : Coherent s) (cal : s.cal = some c)
    (sample : s.sample = some r) (valid : s.tfineValid = true) : s.tFine = some (fineTempOf c r) := by
  obtain ⟨tf, tFine⟩ := Option.isSome_iff_exists.1 valid
  rw [tFine, coherent.tFine_eq cal sample tFine]

/-- Settles O24: the three cases of the command, then its corner cases and the example. -/
theorem compTComputesFineTemperature : Obligations.CompTComputesFineTemperature := by
  refine ⟨rfl, fun _ no_cal => execCompT_noCal no_cal, fun _ _ cal no_sample => execCompT_noSample cal no_sample,
    fun s c r cal sample => ?computes, fun _ _ => execCompT_idempotent, by decide, by decide, by decide, by decide⟩
  case computes =>
    refine ⟨fineTempOf c r, s.writeTemperature (fineTempOf c r), rfl, execCompT_both cal sample, rfl,
      status_writeTemperature s _, fun no_T2 no_T3 => ?no_slope, fun coherent valid => ?rewritten⟩
    case no_slope =>
      rw [fineTempOf_zero no_T2 no_T3]
      exact ⟨rfl, rfl⟩
    case rewritten => exact (tFine_of_coherent coherent cal sample valid).symm

end Sys2Proof.Machine
end

section
/-! SUPPORT. The unsigned side of the datapath as exact integers (R12, R16, R18): how a word's two readings wrap into each other,
and what the unsigned operations compute. With the signed rules above, what carries `CompP` over to integers. -/

namespace Sys2Proof.Reference

/-- A signed wrap inside an unsigned one makes no difference. -/
theorem u32_s32 (x : Int) : u32 (s32 x) = u32 x := s32_emod x

end Sys2Proof.Reference

namespace Sys2Proof.Machine

/-! ### The two readings of a word (R12) -/

theorem toInt_eq_s32 (w : Word) : w.toInt = Reference.s32 w.toNat := by
  rw [Reference.s32_eq_bmod, BitVec.toInt_eq_toNat_bmod]

theorem toNat_eq_u32 (w : Word) : (w.toNat : Int) = Reference.u32 w.toInt := by
  have w_lt := w.isLt
  rw [toInt_eq_s32, Reference.u32_s32, Reference.u32]
  omega

/-! ### Unsigned operations (R16, R18, R19) -/

theorem toNat_sub_eq_u32 (a b : Word) : ((a - b).toNat : Int) = Reference.u32 (a.toNat - b.toNat) := by
  have b_lt := b.isLt
  rw [BitVec.toNat_sub, Reference.u32]
  omega

theorem toNat_mul_eq_u32 (a b : Word) : ((a * b).toNat : Int) = Reference.u32 (a.toNat * b.toNat) := by
  rw [BitVec.toNat_mul]
  push_cast
  rfl

theorem toNat_lsr_eq_shr (u : Word) (k : Nat) : ((lsr u k).toNat : Int) = Reference.shr u.toNat k := by
  rw [toNat_lsr]
  push_cast
  rfl

theorem toNat_shl (a : Word) (k : Nat) : (shl a k).toNat = a.toNat * 2 ^ k % 2 ^ 32 := by
  rw [shl, BitVec.toNat_shiftLeft, Nat.shiftLeft_eq]

end Sys2Proof.Machine
end

section
/-! SUPPORT. `PDiv` (R141), `CompP` as a formula over integers (R142), the divisor's range (R143, R144), the dividend's (R147),
and COMP_P (R150). The statements O25 to O29 are assembled from these rules. -/

namespace Sys2Proof.Machine

open Safety

variable {s t : State}

/-! ### PDiv (R141) -/

section
variable {p d : Word}

theorem toNat_pdiv_below (below : p.toNat < 2 ^ 31) : (pdiv p d).toNat = p.toNat * 2 / d.toNat := by
  have shifts_first : ltU32 p 0x80000000 = true := decide_eq_true below
  have shift_fits : (shl p 1).toNat = p.toNat * 2 := by
    rw [toNat_shl]
    omega
  rw [pdiv, if_pos shifts_first, toNat_udiv32, shift_fits]

theorem toNat_pdiv_above (above : 2 ^ 31 ≤ p.toNat) : (pdiv p d).toNat = p.toNat / d.toNat * 2 % 2 ^ 32 := by
  have divides_first : ¬ ltU32 p 0x80000000 = true := by
    rw [ltU32, BitVec.ult, decide_eq_true_iff]
    exact not_lt.2 above
  rw [pdiv, if_neg divides_first, BitVec.toNat_mul, toNat_udiv32]
  rfl

/-- Shift-first keeps the doubled remainder, which makes up one more divisor when it is at least half of it. -/
theorem double_div_of_half_le_mod {n m : Nat} (pos : 0 < m) (half : m ≤ 2 * (n % m)) : n * 2 / m = n / m * 2 + 1 := by
  have split : m * (n / m) + n % m = n := Nat.div_add_mod n m
  have mod_lt : n % m < m := Nat.mod_lt n pos
  have one_more : (n / m * 2 + 1) * m = 2 * (m * (n / m)) + m := by ring
  have two_more : (n / m * 2 + 1 + 1) * m = 2 * (m * (n / m)) + 2 * m := by ring
  exact Nat.div_eq_of_lt_le (by omega) (by omega)

theorem double_quotient_wraps_iff (above : 2 ^ 31 ≤ p.toNat) (pos : 0 < d.toNat) :
    2 ^ 32 ≤ p.toNat / d.toNat * 2 ↔ d = 1 := by
  have p_lt := p.isLt
  have one_iff : d = 1 ↔ d.toNat = 1 := BitVec.toNat_inj.symm
  rw [one_iff]
  constructor
  · intro wraps
    by_contra not_one
    have halved : p.toNat / d.toNat ≤ p.toNat / 2 := Nat.div_le_div_left (by omega) (by decide)
    omega
  · intro one
    rw [one, Nat.div_one]
    omega

/-- Settles O25: the two branches, then the arithmetic of the remainder and of the doubling. -/
theorem pressureDivisionBranches : Obligations.PressureDivisionBranches := by
  intro p d nonzero
  have pos : 0 < d.toNat := Nat.pos_of_ne_zero fun zero => nonzero (BitVec.eq_of_toNat_eq zero)
  refine ⟨toNat_pdiv_below, toNat_pdiv_above, fun below half => ?one_more,
    fun above => double_quotient_wraps_iff above pos⟩
  case one_more => rw [toNat_pdiv_below below, double_div_of_half_le_mod pos half]

/-- A divisor with its top bit set goes at most once into a word, so the quotient is at most 2 in either branch (R144). -/
theorem toNat_pdiv_le_two (large : 2 ^ 31 ≤ d.toNat) (p : Word) : (pdiv p d).toNat ≤ 2 := by
  have p_lt := p.isLt
  obtain below | above := lt_or_ge p.toNat (2 ^ 31)
  · rw [toNat_pdiv_below below]
    have quotient_lt : p.toNat * 2 / d.toNat < 2 := Nat.div_lt_of_lt_mul (by omega)
    omega
  · rw [toNat_pdiv_above above]
    have quotient_lt : p.toNat / d.toNat < 2 := Nat.div_lt_of_lt_mul (by omega)
    omega

theorem toNat_pdiv (p d : Word) : ((pdiv p d).toNat : Int) = Reference.pdiv p.toNat d.toNat := by
  obtain below | above := lt_or_ge p.toNat (2 ^ 31)
  · have shift_fits : Reference.u32 (p.toNat * 2) = p.toNat * 2 := Int.emod_eq_of_lt (by omega) (by omega)
    rw [toNat_pdiv_below below, Reference.pdiv, if_pos (by omega), shift_fits]
    push_cast
    rfl
  · rw [toNat_pdiv_above above, Reference.pdiv, if_neg (by omega)]
    push_cast
    rfl

end

/-! ### The parts of CompP as integer formulas (R142)

They hold on all words, those outside the registers' ranges too. -/

theorem toInt_pressureVar1 (tf : Word) :
    (pressureVar1 tf).toInt = Reference.s32 (Reference.shr tf.toInt 1 - 64000) := by
  rw [pressureVar1, toInt_sub_eq_s32, toInt_asr]
  rfl

theorem toInt_pressureSq (tf : Word) : (pressureSq tf).toInt =
    Reference.s32 (Reference.shr (pressureVar1 tf).toInt 2 * Reference.shr (pressureVar1 tf).toInt 2) := by
  rw [pressureSq, toInt_mul_eq_s32, toInt_asr]
  rfl

theorem toInt_pressureVar2 (tf P4 P5 P6 : Word) : (pressureVar2 tf P4 P5 P6).toInt =
    Reference.s32 (Reference.shr (Reference.s32 (Reference.s32 (Reference.shr (pressureSq tf).toInt 11 * P6.toInt) +
      Reference.s32 (Reference.s32 ((pressureVar1 tf).toInt * P5.toInt) * 2))) 2 + Reference.s32 (P4.toInt * 2 ^ 16)) := by
  simp only [pressureVar2, Reference.shr, toInt_add_eq_s32, toInt_mul_eq_s32, toInt_asr, toInt_shl_eq_s32, pow_one]

theorem toInt_pressureScale (tf P2 P3 : Word) : (pressureScale tf P2 P3).toInt =
    Reference.shr (Reference.s32 (Reference.shr (Reference.s32 (P3.toInt * Reference.shr (pressureSq tf).toInt 13)) 3 +
      Reference.shr (Reference.s32 (P2.toInt * (pressureVar1 tf).toInt)) 1)) 18 := by
  simp only [pressureScale, Reference.shr, toInt_add_eq_s32, toInt_mul_eq_s32, toInt_asr]

theorem toInt_pressureDivisor (tf P1 P2 P3 : Word) : (pressureDivisor tf P1 P2 P3).toInt =
    Reference.shr (Reference.s32 (Reference.s32 (32768 + (pressureScale tf P2 P3).toInt) * P1.toInt)) 15 := by
  rw [pressureDivisor, toInt_asr, toInt_mul_eq_s32, toInt_add_eq_s32]
  rfl

theorem toNat_pressureDividend (adc tf P4 P5 P6 : Word) : ((pressureDividend adc tf P4 P5 P6).toNat : Int) =
    Reference.u32 (Reference.u32 (Reference.u32 (1048576 - adc.toInt) -
      Reference.u32 (Reference.shr (pressureVar2 tf P4 P5 P6).toInt 12)) * 3125) := by
  rw [pressureDividend, toNat_mul_eq_u32, toNat_sub_eq_u32, asU32, asU32, toNat_eq_u32 (1048576 - adc),
    toNat_eq_u32 (asr _ 12), toInt_sub_eq_s32, Reference.u32_s32, toInt_asr]
  rfl

theorem toNat_pressureCorrected (p P7 P8 P9 : Word) : ((pressureCorrected p P7 P8 P9).toNat : Int) =
    Reference.u32 (Reference.s32 p.toNat + Reference.shr (Reference.s32 (Reference.s32 (
      Reference.shr (Reference.s32 (P9.toInt *
        Reference.s32 (Reference.shr (Reference.u32 (Reference.shr p.toNat 3 * Reference.shr p.toNat 3)) 13))) 12 +
      Reference.shr (Reference.s32 (Reference.s32 (Reference.shr p.toNat 2) * P8.toInt)) 13) + P7.toInt)) 4) := by
  rw [pressureCorrected, asU32, toNat_eq_u32, toInt_add_eq_s32, Reference.u32_s32]
  simp only [asS32, toInt_asr, toInt_add_eq_s32, toInt_mul_eq_s32, toInt_eq_s32 p, toInt_eq_s32 (lsr _ _),
    toNat_lsr_eq_shr, toNat_mul_eq_u32]
  rfl

/-! ### CompP (R142) -/

theorem toNat_compP (adc tf P1 P2 P3 P4 P5 P6 P7 P8 P9 : Word) :
    ((compP adc tf P1 P2 P3 P4 P5 P6 P7 P8 P9).toNat : Int) =
      Reference.compP adc.toInt tf.toInt P1.toInt P2.toInt P3.toInt P4.toInt P5.toInt P6.toInt P7.toInt P8.toInt P9.toInt := by
  simp only [Reference.compP, ← toInt_pressureVar1, ← toInt_pressureSq, ← toInt_pressureVar2, ← toInt_pressureScale,
    ← toInt_pressureDivisor, ← toNat_pressureDividend, ← toNat_eq_u32, ← toNat_pdiv, ← toNat_pressureCorrected]
  by_cases zero : pressureDivisor tf P1 P2 P3 = 0
  · rw [compP_of_divisor_zero zero, zero]
    rfl
  · have toInt_nonzero : (pressureDivisor tf P1 P2 P3).toInt ≠ 0 := fun h => zero (BitVec.eq_of_toInt_eq h)
    rw [if_neg toInt_nonzero, compP, if_neg zero]
    rfl

theorem toInt_pressureCount (adc : BitVec 20) : (1048576 - zext32 adc : Word).toInt = 1048576 - adc.toNat := by
  have adc_lt := adc.isLt
  have full_scale : (1048576 : Word).toInt = 1048576 := rfl
  rw [toInt_sub_eq_s32, toInt_zext32 (by decide), full_scale]
  exact Reference.s32_of_range (by omega) (by omega)

/-- Settles O26: `CompP` on the extended registers, and the range of a 20-bit count. -/
theorem compPIsTheIntegerFormula : Obligations.CompPIsTheIntegerFormula := by
  refine ⟨fun c r tf => ?formula, fun adc => ⟨toInt_pressureCount adc, ?low, ?high⟩⟩
  case formula =>
    rw [compPOf, toNat_compP, adcP, digP1, toInt_zext32 (by decide), toInt_zext32 (by decide)]
    simp only [digP2, digP3, digP4, digP5, digP6, digP7, digP8, digP9, toInt_sext32 (show 16 ≤ 32 by decide)]
  all_goals
    have adc_lt := adc.isLt
    rw [toInt_pressureCount]
    omega

/-! ### The divisor (R143, R144) -/

theorem pressureScale_range (tf P2 P3 : Word) :
    -8192 ≤ (pressureScale tf P2 P3).toInt ∧ (pressureScale tf P2 P3).toInt ≤ 8191 := by
  rw [toInt_pressureScale, Reference.shr]
  have wrapped := Reference.s32_range
  constructor
  · exact Int.le_ediv_of_mul_le (by decide) (wrapped _).1
  · exact Int.le_of_lt_add_one (Int.ediv_lt_of_lt_mul (by decide) (wrapped _).2)

/-- The exact product whose wrap, shifted by 15, is the divisor. -/
def pressureProduct (tf : Word) (P1 : BitVec 16) (P2 P3 : Word) : Int :=
  (32768 + (pressureScale tf P2 P3).toInt) * P1.toNat

section
variable (tf : Word) (P1 : BitVec 16) (P2 P3 : Word)

theorem toInt_pressureDivisor_eq_product : (pressureDivisor tf (zext32 P1) P2 P3).toInt =
    Reference.s32 (pressureProduct tf P1 P2 P3) / 32768 := by
  obtain ⟨low, high⟩ := pressureScale_range tf P2 P3
  have factor_exact : Reference.s32 (32768 + (pressureScale tf P2 P3).toInt) = 32768 + (pressureScale tf P2 P3).toInt :=
    Reference.s32_of_range (by omega) (by omega)
  rw [toInt_pressureDivisor, factor_exact, toInt_zext32 (by decide)]
  rfl

/-- The factor `32768 + var1` is in 24576 .. 40959, which bounds the product by multiples of dig_P1. -/
theorem pressureProduct_bounds :
    24576 * (P1.toNat : Int) ≤ pressureProduct tf P1 P2 P3 ∧ pressureProduct tf P1 P2 P3 ≤ 40959 * (P1.toNat : Int) := by
  obtain ⟨low, high⟩ := pressureScale_range tf P2 P3
  exact ⟨mul_le_mul_of_nonneg_right (by omega) (by omega), mul_le_mul_of_nonneg_right (by omega) (by omega)⟩

theorem pressureProduct_small_iff :
    pressureProduct tf P1 P2 P3 ≤ 32767 ↔ P1 = 0 ∨ (P1 = 1 ∧ (pressureScale tf P2 P3).toInt < 0) := by
  obtain ⟨low, -⟩ := pressureProduct_bounds tf P1 P2 P3
  have at_one : pressureProduct tf 1 P2 P3 = 32768 + (pressureScale tf P2 P3).toInt := mul_one _
  constructor
  · intro small
    obtain zero | one : P1.toNat = 0 ∨ P1.toNat = 1 := by omega
    · exact .inl (BitVec.eq_of_toNat_eq zero)
    · obtain rfl : P1 = 1 := BitVec.eq_of_toNat_eq one
      exact .inr ⟨rfl, by omega⟩
  · rintro (rfl | ⟨rfl, negative⟩)
    · exact (mul_zero _).trans_le (by decide)
    · omega

theorem pressureDivisor_eq_zero_iff : pressureDivisor tf (zext32 P1) P2 P3 = 0 ↔ pressureProduct tf P1 P2 P3 ≤ 32767 := by
  have P1_lt := P1.isLt
  obtain ⟨low, high⟩ := pressureProduct_bounds tf P1 P2 P3
  have toInt_zero : (0 : Word).toInt = 0 := rfl
  rw [← BitVec.toInt_inj, toInt_pressureDivisor_eq_product, toInt_zero, Reference.s32]
  split <;> omega

variable {tf P1 P2 P3}

theorem pressureDivisor_of_product_fits (low : 32768 ≤ pressureProduct tf P1 P2 P3)
    (high : pressureProduct tf P1 P2 P3 < 2 ^ 31) :
    1 ≤ (pressureDivisor tf (zext32 P1) P2 P3).toInt ∧ (pressureDivisor tf (zext32 P1) P2 P3).toInt ≤ 65535 := by
  rw [toInt_pressureDivisor_eq_product, Reference.s32_of_range (by omega) high]
  omega

theorem pressureDivisor_neg_of_product_wraps (wraps : 2 ^ 31 ≤ pressureProduct tf P1 P2 P3) :
    (pressureDivisor tf (zext32 P1) P2 P3).toInt < 0 := by
  have P1_lt := P1.isLt
  obtain ⟨low, high⟩ := pressureProduct_bounds tf P1 P2 P3
  rw [toInt_pressureDivisor_eq_product, Reference.s32]
  split <;> omega

end

/-- Settles O27: the product's three ranges, one after the other, and the guard. -/
theorem pressureDivisorRangeAndZeroGuard : Obligations.PressureDivisorRangeAndZeroGuard := by
  intro adc tf P1 P2 P3 P4 P5 P6 P7 P8 P9 v product d
  have P1_lt := P1.isLt
  obtain ⟨v_low, v_high⟩ := pressureScale_range tf (sext32 P2) (sext32 P3)
  obtain ⟨low, high⟩ := pressureProduct_bounds tf P1 (sext32 P2) (sext32 P3)
  have zero_iff : d = 0 ↔ product ≤ 32767 := pressureDivisor_eq_zero_iff tf P1 (sext32 P2) (sext32 P3)
  have product_eq : pressureProduct tf P1 (sext32 P2) (sext32 P3) = product := rfl
  rw [product_eq] at low high
  refine ⟨v_high, v_low, by omega, by omega,
    zero_iff.trans (pressureProduct_small_iff tf P1 (sext32 P2) (sext32 P3)), zero_iff,
    pressureDivisor_of_product_fits, fun wraps => ?negative, fun zero => compP_of_divisor_zero zero _ _ _ _ _ _⟩
  case negative =>
    have negative : d.toInt < 0 := pressureDivisor_neg_of_product_wraps wraps
    have large : 2 ^ 31 ≤ (asU32 d).toNat := by
      have top_bit := BitVec.toInt_neg_iff.1 negative
      rw [asU32]
      omega
    exact ⟨negative, by omega, large, toNat_pdiv_le_two large⟩

/-! ### The dividend (R147) -/

theorem asr_twelve_range (w : Word) : -2 ^ 19 ≤ (asr w 12).toInt ∧ (asr w 12).toInt < 2 ^ 19 := by
  have low := BitVec.le_toInt w
  have high := BitVec.toInt_lt (x := w)
  rw [toInt_asr]
  omega

theorem toNat_pressureDividend_eq (adc : BitVec 20) (tf P4 P5 P6 : Word) :
    ((pressureDividend (zext32 adc) tf P4 P5 P6).toNat : Int) =
      ((1048576 - adc.toNat) - (asr (pressureVar2 tf P4 P5 P6) 12).toInt) * 3125 % 2 ^ 32 := by
  rw [toNat_pressureDividend, toInt_zext32 (by decide), toInt_asr]
  simp only [Reference.u32, Reference.shr]
  omega

/-- Settles O28: 3125 is odd and `k` is too small for `k * 3125` to be 2^31 modulo 2^32; the two nearest values are reached. -/
theorem dividendAtThresholdIsUnreachable : Obligations.DividendAtThresholdIsUnreachable := by
  refine ⟨fun adc tf P4 P5 P6 => ?range, by decide, by decide⟩
  case range =>
    intro k p
    have adc_lt := adc.isLt
    obtain ⟨low, high⟩ := asr_twelve_range (pressureVar2 tf (sext32 P4) (sext32 P5) (sext32 P6))
    have dividend : (p.toNat : Int) = k * 3125 % 2 ^ 32 := toNat_pressureDividend_eq adc tf _ _ _
    have k_low : -2 ^ 19 + 2 ≤ k := by omega
    have k_high : k ≤ 2 ^ 20 + 2 ^ 19 := by omega
    have wraps : k * 3125 / 2 ^ 32 = -1 ∨ k * 3125 / 2 ^ 32 = 0 ∨ k * 3125 / 2 ^ 32 = 1 := by omega
    have below : p.toNat < 2 ^ 31 → p.toNat ≤ 2147481250 := by omega
    have above : 2 ^ 31 ≤ p.toNat → 2147484375 ≤ p.toNat := by omega
    exact ⟨dividend, k_low, k_high, fun threshold => absurd (above threshold.ge) (by omega), below, above⟩

/-! ### COMP_P (R150) -/

theorem execCompP_noCal (no_cal : s.cal = none) : execCompP s = .next (s.raiseFault .noCal) := withFreshTFine_noCal no_cal

section
variable {c : CalibrationSet} {r : RawSample} {tf : Word} (cal : s.cal = some c)
include cal

theorem execCompP_noSample (no_sample : s.sample = none) : execCompP s = .next (s.raiseFault .noSample) :=
  withFreshTFine_noSample cal no_sample

theorem execCompP_stale (sample : s.sample = some r) (stale : s.tFine = none) :
    execCompP s = .next (s.raiseFault .staleTfine) := withFreshTFine_stale cal sample stale

theorem execCompP_all (sample : s.sample = some r) (tFine : s.tFine = some tf) :
    execCompP s = .next (s.writePOut (compPOf c r tf)) := withFreshTFine_all cal sample tFine

end

theorem status_writePOut (s : State) (v : Word) : (s.writePOut v).status = s.status ||| 0x0010 := by
  have sets_bit_four : (0x0010 : BitVec 16) = BitVec.twoPow 16 4 := rfl
  refine status_eq_of_bits fun k _ => ?_
  rw [BitVec.getLsbD_or, status_getLsbD, sets_bit_four, BitVec.getLsbD_twoPow]
  fun_cases statusBit s k
  all_goals simp [statusBit, State.calValid, State.sampleValid, State.tfineValid, State.tValid, State.pValid, State.hValid,
    State.halted, State.fcode]

/-- What COMP_P does is fixed by the three registers it reads: on all states that hold the same in them it takes the same
fault, or writes the same value. -/
theorem execCompP_of_same_inputs (s : State) :
    (∃ code, ∀ u : State, u.cal = s.cal → u.sample = s.sample → u.tFine = s.tFine →
      execCompP u = .next (u.raiseFault code)) ∨
    ∃ v, ∀ u : State, u.cal = s.cal → u.sample = s.sample → u.tFine = s.tFine → execCompP u = .next (u.writePOut v) := by
  cases cal : s.cal with
  | none => exact .inl ⟨_, fun u no_cal _ _ => execCompP_noCal no_cal⟩
  | some c =>
    cases sample : s.sample with
    | none => exact .inl ⟨_, fun u cal no_sample _ => execCompP_noSample cal no_sample⟩
    | some r =>
      cases tFine : s.tFine with
      | none => exact .inl ⟨_, fun u cal sample stale => execCompP_stale cal sample stale⟩
      | some tf => exact .inr ⟨_, fun u cal sample tFine => execCompP_all cal sample tFine⟩

/-- COMP_P leaves the three registers it reads as they are. -/
theorem execCompP_idempotent (h : execCompP s = .next t) : execCompP t = .next t := by
  obtain ⟨code, answers⟩ | ⟨v, answers⟩ := execCompP_of_same_inputs s
  · cases (answers s rfl rfl rfl).symm.trans h
    exact answers (s.raiseFault code) rfl rfl rfl
  · cases (answers s rfl rfl rfl).symm.trans h
    exact answers (s.writePOut v) rfl rfl rfl

/-- H_OUT is none of the registers that COMP_P reads, nor the one it writes. -/
theorem execCompP_hOut (h : execCompP s = .next t) (hOut : Option Word) :
    execCompP { s with hOut := hOut } = .next { t with hOut := hOut } := by
  obtain ⟨code, answers⟩ | ⟨v, answers⟩ := execCompP_of_same_inputs s
  · cases (answers s rfl rfl rfl).symm.trans h
    exact answers { s with hOut := hOut } rfl rfl rfl
  · cases (answers s rfl rfl rfl).symm.trans h
    exact answers { s with hOut := hOut } rfl rfl rfl

/-- `p >>u 3` has a square of 2^32 or more from 2^16 on. -/
theorem square_wraps_iff (p : Word) : 2 ^ 32 ≤ (lsr p 3).toNat * (lsr p 3).toNat ↔ 2 ^ 19 ≤ p.toNat := by
  have square_le_iff : 2 ^ 16 * 2 ^ 16 ≤ (lsr p 3).toNat * (lsr p 3).toNat ↔ 2 ^ 16 ≤ (lsr p 3).toNat :=
    Nat.mul_self_le_mul_self_iff
  rw [toNat_lsr] at square_le_iff ⊢
  omega

/-- Settles O29: the four cases of the command, then its corner cases and the example. -/
theorem compPComputesPressure : Obligations.CompPComputesPressure := by
  refine ⟨rfl, fun _ no_cal => execCompP_noCal no_cal, fun _ _ cal no_sample => execCompP_noSample cal no_sample,
    fun _ _ _ cal sample stale => execCompP_stale cal sample stale, fun s c r tf cal sample tFine => ?computes,
    fun _ _ => execCompP_idempotent, fun _ _ hOut h => execCompP_hOut h hOut, square_wraps_iff, by decide, by decide,
    by decide⟩
  case computes =>
    refine ⟨s.writePOut (compPOf c r tf), execCompP_all cal sample tFine, rfl, status_writePOut s _, fun zero => ?zero_guard⟩
    case zero_guard => exact congrArg some (compP_of_divisor_zero zero _ _ _ _ _ _)

end Sys2Proof.Machine
end

section
/-! SUPPORT. `CompH` as a formula over integers (R171), its clamp and range (R172, R173), and COMP_H (R180). The statements O30
to O32 are assembled from these rules. -/

namespace Sys2Proof.Machine

variable {s t : State}

/-! ### CompH as an integer formula (R171)

The rules hold on all words, those outside the registers' ranges too. -/

theorem toInt_humidityRaw (adcH tf H1 H2 H3 H4 H5 H6 : Word) :
    (humidityRaw adcH tf H1 H2 H3 H4 H5 H6).toInt =
      Reference.humidityRaw adcH.toInt tf.toInt H1.toInt H2.toInt H3.toInt H4.toInt H5.toInt H6.toInt := by
  simp only [humidityRaw, toInt_add_eq_s32, toInt_sub_eq_s32, toInt_mul_eq_s32, toInt_asr, toInt_shl_eq_s32]
  rfl

theorem ltS32_iff (a b : Word) : ltS32 a b = true ↔ a.toInt < b.toInt := BitVec.slt_iff_toInt_lt

/-- The two bounds, checked one after the other, are `max` and `min` (R172). -/
theorem toInt_humidityClamp (v : Word) : (humidityClamp v).toInt = min (max v.toInt 0) 419430400 := by
  have zero : (0 : Word).toInt = 0 := rfl
  have bound : (419430400 : Word).toInt = 419430400 := rfl
  simp only [humidityClamp, ltS32_iff, apply_ite BitVec.toInt, zero, bound]
  omega

/-- The clamped value is not negative, so the shifted word reads the same signed and unsigned (R173). -/
theorem toNat_compH (adcH tf H1 H2 H3 H4 H5 H6 : Word) :
    ((compH adcH tf H1 H2 H3 H4 H5 H6).toNat : Int) =
      min (max (humidityRaw adcH tf H1 H2 H3 H4 H5 H6).toInt 0) 419430400 / 4096 := by
  rw [compH, asU32, toNat_eq_u32, toInt_asr, toInt_humidityClamp, Reference.u32]
  omega

theorem toInt_shl_adcH (adc : BitVec 16) : (shl (zext32 adc) 14).toInt = (adc.toNat : Int) * 2 ^ 14 := by
  have adc_lt := adc.isLt
  rw [toInt_shl_eq_s32, toInt_zext32 (by decide)]
  exact Reference.s32_of_range (by omega) (by omega)

theorem toInt_shl_digH4_ne_iff (H4 : BitVec 16) :
    (shl (sext32 H4) 20).toInt ≠ H4.toInt * 2 ^ 20 ↔ 2048 ≤ H4.toInt ∨ H4.toInt < -2048 := by
  rw [toInt_shl_eq_s32, toInt_sext32 (by decide), Ne, Reference.s32_eq_self_iff]
  omega

/-- Settles O30: `CompH` on the extended registers, and the two shifts of the first operand. -/
theorem compHIsTheIntegerFormula : Obligations.CompHIsTheIntegerFormula := by
  refine ⟨fun c r tf => ?formula, fun adc => ⟨toInt_shl_adcH adc, ?count_range⟩, toInt_shl_digH4_ne_iff⟩
  case formula =>
    rw [compHOf, toNat_compH, toInt_humidityRaw, adcH, digH1, digH2, digH3, digH4, digH5, digH6]
    simp only [toInt_zext32 (show 16 ≤ 31 by decide), toInt_zext32 (show 8 ≤ 31 by decide),
      toInt_sext32 (show 16 ≤ 32 by decide), toInt_sext32 (show 8 ≤ 32 by decide)]
    rfl
  case count_range =>
    have adc_lt := adc.isLt
    omega

/-! ### The clamp and the output's range (R172, R173) -/

section
variable (adcH tf H1 H2 H3 H4 H5 H6 : Word)

theorem toNat_compH_le : (compH adcH tf H1 H2 H3 H4 H5 H6).toNat ≤ 102400 := by
  have value := toNat_compH adcH tf H1 H2 H3 H4 H5 H6
  omega

variable {adcH tf H1 H2 H3 H4 H5 H6}

theorem compH_of_nonpos (low : (humidityRaw adcH tf H1 H2 H3 H4 H5 H6).toInt ≤ 0) :
    compH adcH tf H1 H2 H3 H4 H5 H6 = 0 := by
  have value := toNat_compH adcH tf H1 H2 H3 H4 H5 H6
  have zero : (compH adcH tf H1 H2 H3 H4 H5 H6).toNat = 0 := by omega
  exact BitVec.eq_of_toNat_eq zero

theorem compH_of_ge_bound (high : 419430400 ≤ (humidityRaw adcH tf H1 H2 H3 H4 H5 H6).toInt) :
    compH adcH tf H1 H2 H3 H4 H5 H6 = 102400 := by
  have value := toNat_compH adcH tf H1 H2 H3 H4 H5 H6
  have full : (compH adcH tf H1 H2 H3 H4 H5 H6).toNat = 102400 := by omega
  exact BitVec.eq_of_toNat_eq full

end

/-- Settles O31: the output's value, its bound (below 2^17, so bits 31:17 are 0), and the two ends. -/
theorem humidityClampAndRange : Obligations.HumidityClampAndRange := by
  intro adcH tf H1 H2 H3 H4 H5 H6 v h
  have value : (h.toNat : Int) = min (max v 0) 419430400 / 4096 := toNat_compH adcH tf H1 H2 H3 H4 H5 H6
  have at_most : h.toNat ≤ 102400 := toNat_compH_le adcH tf H1 H2 H3 H4 H5 H6
  have top_bits_zero : h.extractLsb' 17 15 = 0 := by
    apply BitVec.eq_of_toNat_eq
    rw [BitVec.extractLsb'_toNat, Nat.shiftRight_eq_div_pow, Nat.div_eq_of_lt (by omega)]
    rfl
  exact ⟨by omega, by omega, at_most, top_bits_zero, compH_of_ge_bound, compH_of_nonpos⟩

/-! ### The three checks before COMP_P and COMP_H (R201) -/

/-- What the checks answer is fixed by the three registers they read: on all states that hold the same in them they take the
same fault, or go on with the same three values. -/
theorem withFreshTFine_of_same_inputs (s : State) :
    (∃ code, ∀ (u : State) (k : CalibrationSet → RawSample → Word → Result), u.cal = s.cal → u.sample = s.sample →
      u.tFine = s.tFine → withFreshTFine u k = .next (u.raiseFault code)) ∨
    ∃ c r tf, ∀ (u : State) (k : CalibrationSet → RawSample → Word → Result), u.cal = s.cal → u.sample = s.sample →
      u.tFine = s.tFine → withFreshTFine u k = k c r tf := by
  cases s.cal with
  | none => exact .inl ⟨_, fun _ _ no_cal _ _ => withFreshTFine_noCal no_cal⟩
  | some c =>
    cases s.sample with
    | none => exact .inl ⟨_, fun _ _ cal no_sample _ => withFreshTFine_noSample cal no_sample⟩
    | some r =>
      cases s.tFine with
      | none => exact .inl ⟨_, fun _ _ cal sample stale => withFreshTFine_stale cal sample stale⟩
      | some tf => exact .inr ⟨c, r, tf, fun _ _ cal sample tFine => withFreshTFine_all cal sample tFine⟩

/-! ### COMP_H (R180) -/

theorem execCompH_noCal (no_cal : s.cal = none) : execCompH s = .next (s.raiseFault .noCal) := withFreshTFine_noCal no_cal

section
variable {c : CalibrationSet} {r : RawSample} {tf : Word} (cal : s.cal = some c)
include cal

theorem execCompH_noSample (no_sample : s.sample = none) : execCompH s = .next (s.raiseFault .noSample) :=
  withFreshTFine_noSample cal no_sample

theorem execCompH_stale (sample : s.sample = some r) (stale : s.tFine = none) :
    execCompH s = .next (s.raiseFault .staleTfine) := withFreshTFine_stale cal sample stale

theorem execCompH_all (sample : s.sample = some r) (tFine : s.tFine = some tf) :
    execCompH s = .next (s.writeHOut (compHOf c r tf)) := withFreshTFine_all cal sample tFine

end

theorem status_writeHOut (s : State) (v : Word) : (s.writeHOut v).status = s.status ||| 0x0020 := by
  have sets_bit_five : (0x0020 : BitVec 16) = BitVec.twoPow 16 5 := rfl
  refine status_eq_of_bits fun k _ => ?_
  rw [BitVec.getLsbD_or, status_getLsbD, sets_bit_five, BitVec.getLsbD_twoPow]
  fun_cases statusBit s k
  all_goals simp [statusBit, State.calValid, State.sampleValid, State.tfineValid, State.tValid, State.pValid, State.hValid,
    State.halted, State.fcode]

/-- P_OUT is none of the registers that COMP_H reads, nor the one it writes. -/
theorem execCompH_pOut (h : execCompH s = .next t) (pOut : Option Word) :
    execCompH { s with pOut := pOut } = .next { t with pOut := pOut } := by
  obtain ⟨code, faults⟩ | ⟨c, r, tf, computes⟩ := withFreshTFine_of_same_inputs s
  · cases (faults s _ rfl rfl rfl).symm.trans h
    exact faults { s with pOut := pOut } _ rfl rfl rfl
  · cases (computes s _ rfl rfl rfl).symm.trans h
    exact computes { s with pOut := pOut } _ rfl rfl rfl

/-- With dig_H1 and dig_H2 zero the second factor is floor(8192 / 2^14) = 0 and the correction is 0, whatever the other four
constants are. -/
theorem humidityRaw_H1_H2_zero (adcH tf H3 H4 H5 H6 : Word) : humidityRaw adcH tf 0 0 H3 H4 H5 H6 = 0 := by
  have times_zero (w : Word) : w * 0 = 0 := BitVec.mul_zero
  have factor_zero : asr ((0 : Word) + 8192) 14 = 0 := by decide
  simp only [humidityRaw, times_zero, factor_zero]
  rfl

theorem compHOf_zero {c : CalibrationSet} (no_H1 : c.dig_H1 = 0) (no_H2 : c.dig_H2 = 0) (r : RawSample) (tf : Word) :
    compHOf c r tf = 0 := by
  have H1_zero : digH1 c = 0 := by rw [digH1, no_H1]; rfl
  have H2_zero : digH2 c = 0 := by rw [digH2, no_H2]; rfl
  rw [compHOf, H1_zero, H2_zero, compH, humidityRaw_H1_H2_zero]
  rfl

/-- Settles O32: the four cases of the command, then its corner cases and the example. -/
theorem compHComputesHumidity : Obligations.CompHComputesHumidity := by
  refine ⟨rfl, fun _ no_cal => execCompH_noCal no_cal, fun _ _ cal no_sample => execCompH_noSample cal no_sample,
    fun _ _ _ cal sample stale => execCompH_stale cal sample stale, fun s c r tf cal sample tFine => ?computes,
    fun _ _ pOut h => execCompH_pOut h pOut, by decide, by decide⟩
  case computes =>
    exact ⟨s.writeHOut (compHOf c r tf), _, execCompH_all cal sample tFine, rfl, status_writeHOut s _, rfl,
      fun low => congrArg some (compH_of_nonpos low), fun high => congrArg some (compH_of_ge_bound high),
      fun no_H1 no_H2 _ _ _ _ => congrArg some (compHOf_zero no_H1 no_H2 r tf)⟩

end Sys2Proof.Machine
end

section
/-! SUPPORT. COMP_ALL (R190): its three cases and the registers it leaves, and that the three units presented one by one leave
the same ones, whether they compute, fault or meet a halted block. The statements O33 to O35 are assembled from these rules. -/

namespace Sys2Proof.Machine

open Safety

variable {s t u : State} {c : CalibrationSet} {r : RawSample}

/-! ### The command rule (R190) -/

/-- The four writes of COMP_ALL, all from CAL, SAMPLE and the fine temperature computed from them (R191). -/
def State.writeAll (s : State) (c : CalibrationSet) (r : RawSample) : State :=
  ((s.writeTemperature (fineTempOf c r)).writePOut (compPOf c r (fineTempOf c r))).writeHOut (compHOf c r (fineTempOf c r))

theorem readingOf_writeAll (s : State) (c : CalibrationSet) (r : RawSample) :
    readingOf (s.writeAll c r) = completeReading c r := rfl

theorem status_writeAll (s : State) (c : CalibrationSet) (r : RawSample) :
    (s.writeAll c r).status = s.status ||| 0x003C := by
  rw [State.writeAll, status_writeHOut, status_writePOut, status_writeTemperature, BitVec.or_assoc, BitVec.or_assoc]
  rfl

theorem execCompAll_noCal (no_cal : s.cal = none) : execCompAll s = .next (s.raiseFault .noCal) :=
  withCalAndSample_noCal no_cal

section
variable (cal : s.cal = some c)
include cal

theorem execCompAll_noSample (no_sample : s.sample = none) : execCompAll s = .next (s.raiseFault .noSample) :=
  withCalAndSample_noSample cal no_sample

theorem execCompAll_both (sample : s.sample = some r) : execCompAll s = .next (s.writeAll c r) :=
  withCalAndSample_both cal sample

end

/-- The checks of COMP_T and COMP_ALL: all states with the CAL and SAMPLE of `s` take the same fault, or CAL and SAMPLE are
valid. -/
theorem withCalAndSample_faults_or_valid (s : State) :
    (∃ code, ∀ (u : State) (k : CalibrationSet → RawSample → Result), u.cal = s.cal → u.sample = s.sample →
      withCalAndSample u k = .next (u.raiseFault code)) ∨
    ∃ c r, s.cal = some c ∧ s.sample = some r := by
  cases s.cal with
  | none => exact .inl ⟨_, fun _ _ no_cal _ => withCalAndSample_noCal no_cal⟩
  | some c =>
    cases s.sample with
    | none => exact .inl ⟨_, fun _ _ cal no_sample => withCalAndSample_noSample cal no_sample⟩
    | some r => exact .inr ⟨c, r, rfl, rfl⟩

/-! ### Runs of a halted block (R204) -/

theorem step_halted_keeps_registers (halted : s.halted = true) (not_reset : ¬ ResetNext s) (h : step s = .next t) :
    SameRegisters s t := by
  obtain ⟨-, rfl⟩ | ⟨rest, reset, -⟩ | ⟨sel, rest, -, rfl⟩ | ⟨cmd, p, rest, -, run⟩ := step_next h
  · exact ⟨rfl, rfl, rfl, rfl, rfl, rfl, rfl⟩
  · exact absurd ⟨rest, reset⟩ not_reset
  · exact ⟨rfl, rfl, rfl, rfl, rfl, rfl, rfl⟩
  · cases (runCommand_halted (s := accepted s p rest) halted).symm.trans run
    exact sameRegisters_accepted s p rest

theorem halted_of_sameRegisters (same : SameRegisters s t) : t.halted = s.halted := congrArg Option.isSome same.fault

theorem sameRegisters_symm (same : SameRegisters s t) : SameRegisters t s :=
  ⟨same.cal.symm, same.sample.symm, same.tFine.symm, same.tOut.symm, same.pOut.symm, same.hOut.symm, same.fault.symm⟩

theorem runsTo_halted_keeps_registers {acts : List HostAction} (halted : s.halted = true) (noReset : ∀ a ∈ acts, NoReset a)
    (run : RunsTo acts.length (s.withPending acts) t) : SameRegisters s t := by
  have start : SameRegisters s (s.withPending acts) := ⟨rfl, rfl, rfl, rfl, rfl, rfl, rfl⟩
  have keeps (u v : State) (same : SameRegisters s u) (not_reset : ¬ ResetNext u) (h : step u = .next v) :
      SameRegisters s v :=
    sameRegisters_trans same (step_halted_keeps_registers ((halted_of_sameRegisters same).trans halted) not_reset h)
  obtain ⟨t', run', same, -⟩ :=
    runsTo_of_step_keeps keeps acts [] (s.withPending acts) start (List.append_nil acts).symm noReset
  cases run'.symm.trans run
  exact same

/-! ### The steps of the sequences -/

theorem runsTo_of_step {n : Nat} (run : RunsTo (n + 1) s t) (first : step s = .next u) : RunsTo n u t :=
  (core_run_succ first).symm.trans run

theorem eq_of_runsTo_zero (run : RunsTo 0 s t) : t = s := by
  cases core_run_zero.symm.trans run
  rfl

section
variable {p : Ports} {rest : List HostAction} {tf : Word} (running : s.fault = none)
include running

theorem step_eq_exec {i : Instr} (presents : Presents s (encode i) p rest) : step s = exec i (accepted s p rest) :=
  (step_command presents).trans (runCommand_legal ((not_halted_iff s).2 running) (decode_encode i))

theorem step_loadSample (presents : Presents s 0x02 p rest) :
    step s = .next ((accepted s p rest).writeSample p.sampleIn) := step_eq_exec (i := .loadSample) running presents

/-- A command that faults leaves the registers of its own fault, whatever commands come after it. -/
theorem runsTo_after_fault_registers {i : Instr} {code : FaultCode} (acts : List HostAction)
    (faults : exec i (accepted s p acts) = .next ((accepted s p acts).raiseFault code)) (noReset : ∀ a ∈ acts, NoReset a)
    (run : RunsTo (acts.length + 1) (s.withPending (.command (encode i) p :: acts)) t) :
    SameRegisters (s.raiseFault code) t := by
  have first : step (s.withPending (.command (encode i) p :: acts)) = .next ((accepted s p acts).raiseFault code) :=
    (step_eq_exec (s := s.withPending (.command (encode i) p :: acts)) running rfl).trans faults
  have kept : SameRegisters ((accepted s p []).raiseFault code) t :=
    runsTo_halted_keeps_registers rfl noReset (runsTo_of_step run first)
  exact sameRegisters_trans (t := (accepted s p []).raiseFault code) ⟨rfl, rfl, rfl, rfl, rfl, rfl, rfl⟩ kept

variable (cal : s.cal = some c) (sample : s.sample = some r)
include cal sample

theorem step_compT (presents : Presents s 0x03 p rest) :
    step s = .next ((accepted s p rest).writeTemperature (fineTempOf c r)) :=
  (step_eq_exec (i := .compT) running presents).trans (execCompT_both (s := accepted s p rest) cal sample)

theorem step_compAll (presents : Presents s 0x06 p rest) : step s = .next ((accepted s p rest).writeAll c r) :=
  (step_eq_exec (i := .compAll) running presents).trans (execCompAll_both (s := accepted s p rest) cal sample)

variable (tFine : s.tFine = some tf)
include tFine

theorem step_compP (presents : Presents s 0x04 p rest) :
    step s = .next ((accepted s p rest).writePOut (compPOf c r tf)) :=
  (step_eq_exec (i := .compP) running presents).trans (execCompP_all (s := accepted s p rest) cal sample tFine)

theorem step_compH (presents : Presents s 0x05 p rest) :
    step s = .next ((accepted s p rest).writeHOut (compHOf c r tf)) :=
  (step_eq_exec (i := .compH) running presents).trans (execCompH_all (s := accepted s p rest) cal sample tFine)

end

/-! ### The sequences on a block that computes

Each step finds the registers it reads as COMP_T and the steps before it left them. -/

section
variable (running : s.fault = none) (cal : s.cal = some c) (sample : s.sample = some r)
include running cal sample

theorem runsTo_compAll_registers {p : Ports} (run : RunsTo 1 (s.withPending [.command 0x06 p]) t) :
    SameRegisters (s.writeAll c r) t := by
  have ended := runsTo_of_step run (step_compAll running cal sample rfl)
  rw [eq_of_runsTo_zero ended]
  exact ⟨rfl, rfl, rfl, rfl, rfl, rfl, rfl⟩

theorem runsTo_compT_compP_compH_registers {p q q' : Ports}
    (run : RunsTo 3 (s.withPending [.command 0x03 p, .command 0x04 q, .command 0x05 q']) t) :
    SameRegisters (s.writeAll c r) t := by
  have after_temperature := runsTo_of_step run (step_compT running cal sample rfl)
  have after_pressure := runsTo_of_step after_temperature (step_compP running cal sample rfl rfl)
  have ended := runsTo_of_step after_pressure (step_compH running cal sample rfl rfl)
  rw [eq_of_runsTo_zero ended]
  exact ⟨rfl, rfl, rfl, rfl, rfl, rfl, rfl⟩

theorem runsTo_compT_compH_compP_registers {p q q' : Ports}
    (run : RunsTo 3 (s.withPending [.command 0x03 p, .command 0x05 q, .command 0x04 q']) t) :
    SameRegisters (s.writeAll c r) t := by
  have after_temperature := runsTo_of_step run (step_compT running cal sample rfl)
  have after_humidity := runsTo_of_step after_temperature (step_compH running cal sample rfl rfl)
  have ended := runsTo_of_step after_humidity (step_compP running cal sample rfl rfl)
  rw [eq_of_runsTo_zero ended]
  exact ⟨rfl, rfl, rfl, rfl, rfl, rfl, rfl⟩

end

/-- LOAD_SAMPLE and COMP_ALL, the expansion of READING (R86), give the complete reading of the new sample. -/
theorem runsTo_loadSample_compAll (running : s.fault = none) (cal : s.cal = some c) (p q : Ports) :
    ∃ t, RunsTo 2 (s.withPending [.command 0x02 p, .command 0x06 q]) t ∧ readingOf t = completeReading c p.sampleIn ∧
      t.status = (s.status &&& 0xFFC3) ||| 0x003E := by
  have load := step_loadSample (s := s.withPending [.command 0x02 p, .command 0x06 q]) running rfl
  have compute := step_compAll (s := (accepted s p [.command 0x06 q]).writeSample p.sampleIn) running cal rfl rfl
  refine ⟨_, (core_run_succ load).trans (core_run_succ compute), readingOf_writeAll _ _ _, ?status⟩
  case status =>
    calc _ = (s.writeSample p.sampleIn).status ||| 0x003C := status_writeAll _ _ _
      _ = (s.status &&& 0xFFC3) ||| 0x003E := by rw [status_writeSample, BitVec.or_assoc]; rfl

/-- The registers that the three sequences share: the block's own where it is halted, those of the fault that the first command
takes, or those with the four results. -/
theorem compAll_and_units_share_registers (s : State) : ∃ x : State, ∀ (p q1 q2 q3 : Ports) (t : State),
    (RunsTo 1 (s.withPending [.command 0x06 p]) t → SameRegisters x t) ∧
    (RunsTo 3 (s.withPending [.command 0x03 q1, .command 0x04 q2, .command 0x05 q3]) t → SameRegisters x t) ∧
    (RunsTo 3 (s.withPending [.command 0x03 q1, .command 0x05 q2, .command 0x04 q3]) t → SameRegisters x t) := by
  cases halted : s.halted with
  | true =>
    exact ⟨s, fun _ _ _ _ _ =>
      ⟨runsTo_halted_keeps_registers (acts := [_]) halted (by simp [NoReset]),
        runsTo_halted_keeps_registers (acts := [_, _, _]) halted (by simp [NoReset]),
        runsTo_halted_keeps_registers (acts := [_, _, _]) halted (by simp [NoReset])⟩⟩
  | false =>
    have running := (not_halted_iff s).1 halted
    obtain ⟨code, faults⟩ | ⟨c, r, cal, sample⟩ := withCalAndSample_faults_or_valid s
    · exact ⟨s.raiseFault code, fun _ _ _ _ _ =>
        ⟨runsTo_after_fault_registers running (i := .compAll) [] (faults _ _ rfl rfl) (by simp),
          runsTo_after_fault_registers running (i := .compT) [_, _] (faults _ _ rfl rfl) (by simp [NoReset]),
          runsTo_after_fault_registers running (i := .compT) [_, _] (faults _ _ rfl rfl) (by simp [NoReset])⟩⟩
    · exact ⟨s.writeAll c r, fun _ _ _ _ _ =>
        ⟨runsTo_compAll_registers running cal sample, runsTo_compT_compP_compH_registers running cal sample,
          runsTo_compT_compH_compP_registers running cal sample⟩⟩

/-! ### The statements -/

/-- V-S1. -/
theorem completeReading_sampleA : completeReading setA sampleA =
    { tFine := some 128422, tOut := some 2508, pOut := some 100656, hOut := some 39190 } := by decide

/-- Settles O33: the three cases of the command, the registers that the three sequences share, and V-S1. -/
theorem compAllEqualsTheThreeUnitsInOrder : Obligations.CompAllEqualsTheThreeUnitsInOrder := by
  refine ⟨rfl, fun _ no_cal => execCompAll_noCal no_cal, fun _ _ cal no_sample => execCompAll_noSample cal no_sample,
    fun s c r cal sample => ?computes, fun s t u w p q1 q2 q3 run_t run_u run_w => ?sequences,
    fun p q worked => ?example_run⟩
  case computes =>
    exact ⟨fineTempOf c r, s.writeAll c r, rfl, execCompAll_both cal sample, rfl, status_writeAll s c r⟩
  case sequences =>
    obtain ⟨x, registers⟩ := compAll_and_units_share_registers s
    obtain ⟨whole, -, -⟩ := registers p q1 q2 q3 t
    obtain ⟨-, pressure_first, -⟩ := registers p q1 q2 q3 u
    obtain ⟨-, -, humidity_first⟩ := registers p q1 q2 q3 w
    have from_all : SameRegisters t x := sameRegisters_symm (whole run_t)
    exact ⟨sameRegisters_trans from_all (pressure_first run_u),
      sameRegisters_trans from_all (humidity_first run_w)⟩
  case example_run =>
    obtain ⟨t, run, reading, status⟩ := runsTo_loadSample_compAll (s := State.reset.writeCal setA) rfl rfl p q
    refine ⟨t, run, ?_, ?_⟩
    · rw [reading, worked, completeReading_sampleA]
    · rw [status, status_writeCal, resetStateHoldsNothing.1]
      rfl

/-- Settles O34: each command writes values of CAL and SAMPLE alone; a valid T_FINE of a coherent state is one too. -/
theorem compensationIsDeterministic : Obligations.CompensationIsDeterministic := by
  intro s s' c r cal cal' sample sample'
  refine ⟨fun t t' h h' => ?all, fun t t' h h' => ?temperature, fun coherent coherent' valid valid' => ?others⟩
  case all =>
    cases (execCompAll_both cal sample).symm.trans h
    cases (execCompAll_both cal' sample').symm.trans h'
    rfl
  case temperature =>
    cases (execCompT_both cal sample).symm.trans h
    cases (execCompT_both cal' sample').symm.trans h'
    exact ⟨rfl, rfl⟩
  case others =>
    have tFine := tFine_of_coherent coherent cal sample valid
    have tFine' := tFine_of_coherent coherent' cal' sample' valid'
    refine ⟨fun t t' h h' => ?pressure, fun t t' h h' => ?humidity⟩
    case pressure =>
      cases (execCompP_all cal sample tFine).symm.trans h
      cases (execCompP_all cal' sample' tFine').symm.trans h'
      rfl
    case humidity =>
      cases (execCompH_all cal sample tFine).symm.trans h
      cases (execCompH_all cal' sample' tFine').symm.trans h'
      rfl

/-- Settles O35: with set A, V-S1 gives 128422, 100656 and 39190, and V-S2, which differs from it in ADC_T, gives
96494, 99698 and 39199. -/
theorem fineTemperatureDrivesTheOtherResults : Obligations.FineTemperatureDrivesTheOtherResults :=
  ⟨setA, sampleA, { sampleA with adc_T := 500000 }, rfl, rfl, by decide, by decide, by decide⟩

end Sys2Proof.Machine
end

section
/-! SUPPORT. The checks of each command against R201's table, and what they leave (R201 to R203); then the frame around a
command and the halt (R203, R204). The statements O7, O6, O3 and O5 are assembled from these rules. -/

namespace Sys2Proof.Machine

open Safety

variable {s t : State}

/-! ### The halt (R204) -/

theorem sameRegisters_refl (s : State) : SameRegisters s s := ⟨rfl, rfl, rfl, rfl, rfl, rfl, rfl⟩

/-- A block that still holds the registers of a halted one is halted, so its next step keeps them too. -/
theorem step_keeps_registers_of_halted (halted : s.halted = true) (u v : State) (same : SameRegisters s u)
    (not_reset : ¬ ResetNext u) (h : step u = .next v) : SameRegisters s v :=
  sameRegisters_trans same (step_halted_keeps_registers ((halted_of_sameRegisters same).trans halted) not_reset h)

theorem resetNext_of_leaves_halt (h : step s = .next t) (halted : s.halted = true) (running : t.halted = false) :
    ResetNext s := (step_fault h).clears_of_fall ⟨halted, running⟩

theorem step_keeps_fault {f : FaultCode} (h : step s = .next t) (faulted : s.fault = some f) :
    t.fault = some f ∨ ResetNext s := by
  cases step_fault h with
  | keep same => exact .inl (same.trans faulted)
  | clear _ reset => exact .inr reset
  | write _ cause => simp [cause.1] at faulted

/-- Settles O7: the registers of the halted state are the invariant of the run. -/
theorem haltedBlockIgnoresCommandsUntilReset : Obligations.HaltedBlockIgnoresCommandsUntilReset :=
  ⟨fun acts rest s halted pending noReset =>
      runsTo_of_step_keeps (step_keeps_registers_of_halted halted) acts rest s (sameRegisters_refl s) pending noReset,
    fun _ _ _ _ read => step_read read, fun _ _ => resetNext_of_leaves_halt⟩

/-! ### The table of R201 -/

/-- The answer `r` of a command rule at `s` whose first failing check is the index: that fault and nothing else, or, when no
check fails, a next state with FAULT and FCODE as they were. -/
inductive AnswersCheck (s : State) (r : Result) : Option FaultCode → Prop where
  | fault {code : FaultCode} (faults : r = .next (s.raiseFault code)) : AnswersCheck s r (some code)
  | pass {t : State} (answers : r = .next t) (same : t.fault = s.fault) : AnswersCheck s r none

/-- NO_CAL, then NO_SAMPLE, then `check`: how each compute command's row of the table begins. -/
def checkCalAndSample (s : State) (check : Option FaultCode) : Option FaultCode :=
  if !s.calValid then some .noCal else if !s.sampleValid then some .noSample else check

/-- STALE_TFINE, the last check of COMP_P and COMP_H. -/
def checkTFine (s : State) : Option FaultCode := if !s.tfineValid then some .staleTfine else none

theorem firstFault_compT (s : State) : firstFault .compT s = checkCalAndSample s none := rfl

theorem firstFault_compP (s : State) : firstFault .compP s = checkCalAndSample s (checkTFine s) := rfl

theorem firstFault_compH (s : State) : firstFault .compH s = checkCalAndSample s (checkTFine s) := rfl

theorem firstFault_compAll (s : State) : firstFault .compAll s = checkCalAndSample s none := rfl

theorem withCalAndSample_answersCheck {k : CalibrationSet → RawSample → Result} {check : Option FaultCode}
    (continues : ∀ c r, AnswersCheck s (k c r) check) :
    AnswersCheck s (withCalAndSample s k) (checkCalAndSample s check) := by
  cases cal : s.cal with
  | none =>
    have no_cal : checkCalAndSample s check = some .noCal := by simp [checkCalAndSample, State.calValid, cal]
    rw [no_cal]
    exact .fault (withCalAndSample_noCal cal)
  | some c =>
    cases sample : s.sample with
    | none =>
      have no_sample : checkCalAndSample s check = some .noSample := by
        simp [checkCalAndSample, State.calValid, State.sampleValid, cal, sample]
      rw [no_sample]
      exact .fault (withCalAndSample_noSample cal sample)
    | some r =>
      have passes : checkCalAndSample s check = check := by
        simp [checkCalAndSample, State.calValid, State.sampleValid, cal, sample]
      rw [passes, withCalAndSample_both cal sample]
      exact continues c r

theorem withFreshTFine_answersCheck {k : CalibrationSet → RawSample → Word → Result}
    (continues : ∀ c r tf, AnswersCheck s (k c r tf) none) :
    AnswersCheck s (withFreshTFine s k) (checkCalAndSample s (checkTFine s)) := by
  refine withCalAndSample_answersCheck fun c r => ?_
  cases tFine : s.tFine with
  | none =>
    have stale : checkTFine s = some .staleTfine := by simp [checkTFine, State.tfineValid, tFine]
    rw [stale]
    exact .fault rfl
  | some tf =>
    have passes : checkTFine s = none := by simp [checkTFine, State.tfineValid, tFine]
    rw [passes]
    exact continues c r tf

theorem execLoadCal_answersCheck (s : State) : AnswersCheck s (execLoadCal s) (firstFault .loadCal s) := by
  cases cal : s.cal with
  | none =>
    have passes : firstFault .loadCal s = none := by simp [firstFault, State.calValid, cal]
    rw [passes]
    exact .pass (execLoadCal_empty cal) rfl
  | some c =>
    have reload : firstFault .loadCal s = some .calReload := by simp [firstFault, State.calValid, cal]
    rw [reload]
    exact .fault (execLoadCal_valid cal)

/-- Every command rule follows its row of R201's table. -/
theorem exec_answersCheck (i : Instr) (s : State) : AnswersCheck s (exec i s) (firstFault i s) := by
  cases i with
  | nop => exact .pass rfl rfl
  | loadCal => exact execLoadCal_answersCheck s
  | loadSample => exact .pass rfl rfl
  | compT => rw [firstFault_compT]; exact withCalAndSample_answersCheck fun _ _ => .pass rfl rfl
  | compP => rw [firstFault_compP]; exact withFreshTFine_answersCheck fun _ _ _ => .pass rfl rfl
  | compH => rw [firstFault_compH]; exact withFreshTFine_answersCheck fun _ _ _ => .pass rfl rfl
  | compAll => rw [firstFault_compAll]; exact withCalAndSample_answersCheck fun _ _ => .pass rfl rfl

theorem AnswersCheck.of_running {r : Result} {check : Option FaultCode} (answer : AnswersCheck s r check)
    (running : s.fault = none) :
    ∃ t, r = .next t ∧ t.fault = check ∧ ∀ code, check = some code → t = s.raiseFault code := by
  cases answer with
  | fault faults => exact ⟨_, faults, rfl, fun _ eq => Option.some.inj eq ▸ rfl⟩
  | pass answers same => exact ⟨_, answers, same.trans running, nofun⟩

/-- R203: a rule that changes FAULT changes nothing else. -/
theorem AnswersCheck.precise {r : Result} {check : Option FaultCode} (answer : AnswersCheck s r check) (h : r = .next t)
    (changed : t.fault ≠ s.fault) : ∃ code, t = s.raiseFault code := by
  cases answer with
  | fault faults => cases faults.symm.trans h; exact ⟨_, rfl⟩
  | pass answers same => cases answers.symm.trans h; exact absurd same changed

/-! ### A valid T_FINE (R202) -/

theorem sample_and_cal_valid_of_coherent (coherent : Coherent s) (valid : s.tfineValid = true) :
    s.sampleValid = true ∧ s.calValid = true := by
  obtain ⟨tf, tFine⟩ := Option.isSome_iff_exists.1 valid
  obtain ⟨c, r, cal, sample, -⟩ := coherent.tFine tf tFine
  exact ⟨Option.isSome_of_eq_some sample, Option.isSome_of_eq_some cal⟩

/-! ### Reserved bytes (R81, R84) -/

theorem decode_error_of_reserved {b : Byte} (reserved : rsvField b ≠ 0 ∨ opField b = 7) : ∃ e, decode b = .error e := by
  cases decoded : decode b with
  | error e => exact ⟨e, rfl⟩
  | ok i =>
    obtain ⟨rsv_zero, named⟩ := (decode_legal_iff b).1 ⟨i, decoded⟩
    exact absurd reserved (not_or.2 ⟨not_not.2 rsv_zero, named⟩)

theorem reserved_of_seven_le {b : Byte} (beyond : 7 ≤ b.toNat) : rsvField b ≠ 0 ∨ opField b = 7 := by
  obtain seven | above := beyond.eq_or_lt
  · exact .inr (BitVec.eq_of_toNat_eq (by rw [toNat_opField, ← seven]; rfl))
  · exact .inl (rsvField_ne_zero above)

theorem step_reserved {b : Byte} {p : Ports} {rest : List HostAction} (presents : Presents s b p rest)
    (running : s.halted = false) (reserved : rsvField b ≠ 0 ∨ opField b = 7) :
    step s = .next ((accepted s p rest).raiseFault .illegalCmd) :=
  let ⟨_, illegal⟩ := decode_error_of_reserved reserved
  step_illegal presents running illegal

/-! ### The statements -/

/-- Settles O6: every command follows its row of the table, and from 7 up every byte is reserved. -/
theorem firstFailingCheckIsTheFault : Obligations.FirstFailingCheckIsTheFault :=
  ⟨fun i s running => (exec_answersCheck i s).of_running ((not_halted_iff s).1 running),
    fun _ _ _ _ presents running beyond => step_reserved presents running (reserved_of_seven_le beyond),
    fun _ _ _ => step_keeps_fault, fun _ => sample_and_cal_valid_of_coherent⟩

/-- Settles O3: the three cases of the frame, then the precision of each rule's checks. -/
theorem stepRunsTheDecodedCommand : Obligations.StepRunsTheDecodedCommand := by
  refine ⟨fun s cmd p rest presents => ⟨fun halted => ?ignored, step_reserved presents, fun i running legal => ?runs⟩,
    fun i s _ => (exec_answersCheck i s).precise⟩
  case ignored => exact (step_command presents).trans (runCommand_halted halted)
  case runs => exact (step_command presents).trans (runCommand_legal running legal)

/-- Settles O5. -/
theorem everyStepAnswersANextState : Obligations.EveryStepAnswersANextState := ⟨step_answers, exec_answers⟩

end Sys2Proof.Machine
end

section
/-! SUPPORT. The reset event (R230): the state it establishes, and that nothing else leaves a halt or touches a valid CAL. The
statement O2 is assembled from these rules. -/

namespace Sys2Proof.Machine

open Safety

theorem status_acceptReset (s : State) : s.acceptReset.status = 0x0000 := resetStateHoldsNothing.1

theorem resetNext_of_cal_changes {s t : State} {c : CalibrationSet} (h : step s = .next t) (cal : s.cal = some c)
    (changed : t.cal ≠ some c) : ResetNext s :=
  by_contra fun not_reset => changed (step_keeps_cal cal not_reset h)

/-- Settles O2: the step rule for a reset, and the two invariants that only a reset breaks. -/
theorem resetEventInAnyState : Obligations.ResetEventInAnyState := by
  refine ⟨fun s rest reset => ?established, fun _ _ => resetNext_of_leaves_halt, fun _ _ _ => resetNext_of_cal_changes⟩
  case established =>
    exact ⟨(s.withPending rest).acceptReset, step_reset reset, status_acceptReset _, rfl, rfl, rfl, rfl, rfl, rfl, rfl, rfl,
      rfl, rfl, fun nothing_else => step_idle nothing_else⟩

end Sys2Proof.Machine
end

section
/-! SUPPORT. Runs in which the host presents interactions of a given kind: two runs in a row, what such a run keeps, and that
NOPs and reads keep every register. The hazards (R240, R241) and the session (R231) below both use these rules. -/

namespace Sys2Proof.Machine

open Safety

variable {s t u : State} {a : HostAction} {acts rest : List HostAction}

theorem runsTo_append {m n : Nat} (first : RunsTo m s t) (second : RunsTo n t u) : RunsTo (m + n) s u := by
  induction m generalizing s with
  | zero =>
    rw [eq_of_runsTo_zero first] at second
    rwa [Nat.zero_add]
  | succ m ih =>
    obtain ⟨v, h⟩ := step_answers s
    rw [Nat.succ_add]
    exact (core_run_succ h).trans (ih (runsTo_of_step first h))

/-- A property that every step on an allowed interaction keeps holds at the end of any list of these. A reset may be
allowed, which sets the rule apart from `runsTo_of_step_keeps`. -/
theorem runsTo_of_allowed_keeps {P : State → Prop} {allowed : HostAction → Prop}
    (keeps : ∀ s t a rest, P s → s.pending = a :: rest → allowed a → step s = .next t → P t) (holds : P s)
    (pending : s.pending = acts ++ rest) (all_allowed : ∀ a ∈ acts, allowed a) :
    ∃ t, RunsTo acts.length s t ∧ P t ∧ t.pending = rest := by
  induction acts generalizing s with
  | nil => exact ⟨s, core_run_zero, holds, pending⟩
  | cons a acts ih =>
    obtain ⟨u, h⟩ := step_answers s
    have pending_next : u.pending = acts ++ rest := by rw [step_pending h, pending]; rfl
    have holds_next := keeps s u a _ holds pending (all_allowed a (by simp)) h
    obtain ⟨t, run, result⟩ := ih holds_next pending_next fun b mem => all_allowed b (by simp [mem])
    exact ⟨t, (core_run_succ h).trans run, result⟩

theorem step_nopOrRead_keeps_registers (pending : s.pending = a :: rest) (no_effect : NopOrRead a)
    (h : step s = .next t) : SameRegisters s t := by
  cases a with
  | reset => exact no_effect.elim
  | read sel =>
    cases (step_read pending).symm.trans h
    exact ⟨rfl, rfl, rfl, rfl, rfl, rfl, rfl⟩
  | command cmd p =>
    obtain rfl : cmd = 0x00 := no_effect
    cases ((step_command pending).trans (runCommand_nop (accepted s p rest))).symm.trans h
    exact sameRegisters_accepted s p rest

theorem runsTo_nopOrRead_keeps_registers (pending : s.pending = acts ++ rest) (no_effect : ∀ a ∈ acts, NopOrRead a) :
    ∃ t, RunsTo acts.length s t ∧ SameRegisters s t ∧ t.pending = rest :=
  runsTo_of_allowed_keeps
    (fun _ _ _ _ same pending no_effect h => sameRegisters_trans same (step_nopOrRead_keeps_registers pending no_effect h))
    (sameRegisters_refl s) pending no_effect

end Sys2Proof.Machine
end

section
/-! SUPPORT. The stale-temperature hazard (R240): what leaves the window open after LOAD_SAMPLE, how COMP_P and COMP_H answer in
it, and what closes it. The statement O36 is assembled from these rules. -/

namespace Sys2Proof.Machine

open Safety

variable {s t : State} {a : HostAction} {rest : List HostAction} {q : Ports} {cmd : Byte} {c : CalibrationSet} {r : RawSample}

/-- Only COMP_T and COMP_ALL write T_FINE. -/
theorem step_keeps_stale (stale : s.tFine = none) (pending : s.pending = a :: rest) (other : NotCommand [0x03, 0x06] a)
    (h : step s = .next t) : t.tFine = none := by
  cases step_tFine h with
  | keep same => exact same.trans stale
  | clear stale_next => exact stale_next
  | write _ cause =>
    obtain ⟨⟨cmd, p, rest', presents, writes⟩, -⟩ := cause
    obtain ⟨rfl, -⟩ := List.cons.inj (pending.symm.trans presents)
    exact absurd writes other

section
variable (running : s.fault = none) (cal : s.cal = some c) (sample : s.sample = some r) (presents : Presents s cmd q rest)
include running cal sample presents

theorem step_compP_or_compH_stale (command : cmd = 0x04 ∨ cmd = 0x05) (stale : s.tFine = none) :
    step s = .next ((accepted s q rest).raiseFault .staleTfine) := by
  obtain rfl | rfl := command
  · exact (step_eq_exec (i := .compP) running presents).trans (execCompP_stale (s := accepted s q rest) cal sample stale)
  · exact (step_eq_exec (i := .compH) running presents).trans (execCompH_stale (s := accepted s q rest) cal sample stale)

theorem step_compT_or_compAll_lifts (command : cmd = 0x03 ∨ cmd = 0x06) :
    ∃ t, step s = .next t ∧ t.tFine = some (fineTempOf c r) ∧ t.fault = none := by
  obtain rfl | rfl := command
  · exact ⟨_, step_compT running cal sample presents, rfl, running⟩
  · exact ⟨_, step_compAll running cal sample presents, rfl, running⟩

end

/-- Settles O36: LOAD_SAMPLE makes T_FINE stale and leaves the block running with CAL as it was; each clause goes on from
there. -/
theorem staleFineTemperatureIsDetected : Obligations.StaleFineTemperatureIsDetected := by
  refine ⟨fun acts rest s p presents not_halted others => ?window,
    fun acts rest s p q cmd command presents not_halted cal_valid no_effect => ?faults,
    fun s p q rest cmd command presents not_halted cal_valid => ?lifted⟩
  all_goals
    have running := (not_halted_iff s).1 not_halted
    have load := step_loadSample running presents
  case window =>
    obtain ⟨t, run, stale, -⟩ := runsTo_of_allowed_keeps (P := fun u => u.tFine = none)
      (s := (accepted s p (acts ++ rest)).writeSample p.sampleIn) (fun _ _ _ _ => step_keeps_stale) rfl rfl others
    exact ⟨t, (core_run_succ load).trans run, by simp [State.tfineValid, stale]⟩
  case faults =>
    obtain ⟨c, cal⟩ := Option.isSome_iff_exists.1 cal_valid
    obtain ⟨t, run, same, presents_next⟩ := runsTo_nopOrRead_keeps_registers
      (s := (accepted s p (acts ++ .command cmd q :: rest)).writeSample p.sampleIn) rfl no_effect
    have fault := step_compP_or_compH_stale (same.fault.trans running) (same.cal.trans cal) same.sample presents_next command
      same.tFine
    exact ⟨_, (core_run_succ load).trans (runsTo_append run (core_run_succ fault)), rfl⟩
  case lifted =>
    obtain ⟨c, cal⟩ := Option.isSome_iff_exists.1 cal_valid
    obtain ⟨t, compute, fresh, running_next⟩ := step_compT_or_compAll_lifts
      (s := (accepted s p (.command cmd q :: rest)).writeSample p.sampleIn) running cal rfl rfl command
    exact ⟨t, (core_run_succ load).trans (core_run_succ compute), Option.isSome_of_eq_some fresh,
      (not_halted_iff t).2 running_next⟩

end Sys2Proof.Machine
end

section
/-! SUPPORT. The orders that are no hazard (R241): COMP_P and COMP_H commute, whether they compute, fault or meet a halted
block, and a second compute command answers the state it is presented to. The statement O37 is assembled from these rules. -/

namespace Sys2Proof.Machine

open Safety

variable {s t : State}

/-! ### COMP_P and COMP_H commute -/

/-- The checks of COMP_P and COMP_H: all states with the CAL, SAMPLE and T_FINE of `s` take the same fault, or the three are
valid. -/
theorem withFreshTFine_faults_or_valid (s : State) :
    (∃ code, ∀ (u : State) (k : CalibrationSet → RawSample → Word → Result), u.cal = s.cal → u.sample = s.sample →
      u.tFine = s.tFine → withFreshTFine u k = .next (u.raiseFault code)) ∨
    ∃ c r tf, s.cal = some c ∧ s.sample = some r ∧ s.tFine = some tf := by
  obtain ⟨code, faults⟩ | ⟨c, r, cal, sample⟩ := withCalAndSample_faults_or_valid s
  · exact .inl ⟨code, fun u _ same_cal same_sample _ => faults u _ same_cal same_sample⟩
  · cases tFine : s.tFine with
    | none =>
      exact .inl ⟨_, fun u k same_cal same_sample stale =>
        withFreshTFine_stale (same_cal.trans cal) (same_sample.trans sample) stale⟩
    | some tf => exact .inr ⟨c, r, tf, cal, sample, rfl⟩

section
variable {c : CalibrationSet} {r : RawSample} {tf : Word} {p q : Ports} (running : s.fault = none) (cal : s.cal = some c)
  (sample : s.sample = some r) (tFine : s.tFine = some tf)
include running cal sample tFine

theorem runsTo_compP_compH_registers (run : RunsTo 2 (s.withPending [.command 0x04 p, .command 0x05 q]) t) :
    SameRegisters ((s.writePOut (compPOf c r tf)).writeHOut (compHOf c r tf)) t := by
  have after_pressure := runsTo_of_step run (step_compP running cal sample tFine rfl)
  have ended := runsTo_of_step after_pressure (step_compH running cal sample tFine rfl)
  rw [eq_of_runsTo_zero ended]
  exact ⟨rfl, rfl, rfl, rfl, rfl, rfl, rfl⟩

theorem runsTo_compH_compP_registers (run : RunsTo 2 (s.withPending [.command 0x05 p, .command 0x04 q]) t) :
    SameRegisters ((s.writePOut (compPOf c r tf)).writeHOut (compHOf c r tf)) t := by
  have after_humidity := runsTo_of_step run (step_compH running cal sample tFine rfl)
  have ended := runsTo_of_step after_humidity (step_compP running cal sample tFine rfl)
  rw [eq_of_runsTo_zero ended]
  exact ⟨rfl, rfl, rfl, rfl, rfl, rfl, rfl⟩

end

/-- The registers that both orders leave: the block's own where it is halted, those of the fault that the first command takes,
or those with the two results. -/
theorem compP_and_compH_share_registers (s : State) : ∃ x : State, ∀ (p q : Ports) (t : State),
    (RunsTo 2 (s.withPending [.command 0x04 p, .command 0x05 q]) t → SameRegisters x t) ∧
    (RunsTo 2 (s.withPending [.command 0x05 p, .command 0x04 q]) t → SameRegisters x t) := by
  cases halted : s.halted with
  | true =>
    exact ⟨s, fun _ _ _ =>
      ⟨runsTo_halted_keeps_registers (acts := [_, _]) halted (by simp [NoReset]),
        runsTo_halted_keeps_registers (acts := [_, _]) halted (by simp [NoReset])⟩⟩
  | false =>
    have running := (not_halted_iff s).1 halted
    obtain ⟨code, faults⟩ | ⟨c, r, tf, cal, sample, tFine⟩ := withFreshTFine_faults_or_valid s
    · exact ⟨s.raiseFault code, fun _ _ _ =>
        ⟨runsTo_after_fault_registers running (i := .compP) [_] (faults _ _ rfl rfl rfl) (by simp [NoReset]),
          runsTo_after_fault_registers running (i := .compH) [_] (faults _ _ rfl rfl rfl) (by simp [NoReset])⟩⟩
    · exact ⟨_, fun _ _ _ =>
        ⟨runsTo_compP_compH_registers running cal sample tFine, runsTo_compH_compP_registers running cal sample tFine⟩⟩

/-! ### A compute command a second time -/

/-- COMP_H leaves the three registers it reads as they are. -/
theorem execCompH_idempotent (h : execCompH s = .next t) : execCompH t = .next t := by
  obtain ⟨code, faults⟩ | ⟨c, r, tf, cal, sample, tFine⟩ := withFreshTFine_faults_or_valid s
  · cases (faults s _ rfl rfl rfl).symm.trans h
    exact faults (s.raiseFault code) _ rfl rfl rfl
  · cases (execCompH_all cal sample tFine).symm.trans h
    exact execCompH_all (s := s.writeHOut (compHOf c r tf)) cal sample tFine

/-- COMP_ALL leaves CAL and SAMPLE as they are, and its four results depend on nothing else. -/
theorem execCompAll_idempotent (h : execCompAll s = .next t) : execCompAll t = .next t := by
  obtain ⟨code, faults⟩ | ⟨c, r, cal, sample⟩ := withCalAndSample_faults_or_valid s
  · cases (faults s _ rfl rfl).symm.trans h
    exact faults (s.raiseFault code) _ rfl rfl
  · cases (execCompAll_both cal sample).symm.trans h
    exact execCompAll_both (s := s.writeAll c r) cal sample

theorem exec_compute_idempotent {i : Instr} (compute : i ∈ [Instr.compT, .compP, .compH, .compAll])
    (h : exec i s = .next t) : exec i t = .next t := by
  simp only [List.mem_cons, List.not_mem_nil, or_false] at compute
  obtain rfl | rfl | rfl | rfl := compute
  · exact execCompT_idempotent h
  · exact execCompP_idempotent h
  · exact execCompH_idempotent h
  · exact execCompAll_idempotent h

/-! ### The statement -/

/-- Settles O37: the registers that the two orders share, the repeated command, and the two faults. -/
theorem noOtherOrderingHazard : Obligations.NoOtherOrderingHazard := by
  refine ⟨fun s t u p q run_t run_u => ?commute, fun _ _ _ => exec_compute_idempotent,
    fun s t u cal_valid load compute => ?stale, fun s cal_valid => ?reload⟩
  case commute =>
    obtain ⟨x, registers⟩ := compP_and_compH_share_registers s
    exact sameRegisters_trans (sameRegisters_symm ((registers p q t).1 run_t)) ((registers p q u).2 run_u)
  case stale =>
    obtain ⟨c, cal⟩ := Option.isSome_iff_exists.1 cal_valid
    obtain rfl := execLoadSample_next load
    cases (execCompP_stale (s := s.writeSample s.ports.sampleIn) cal rfl rfl).symm.trans compute
    rfl
  case reload =>
    obtain ⟨c, cal⟩ := Option.isSome_iff_exists.1 cal_valid
    exact execLoadCal_valid cal

end Sys2Proof.Machine
end

section
/-! SUPPORT. The session of R231. `Reaches` says where a list of commands leads, whatever reads the host puts between them: it
composes along the list, so the session's end follows from one rule for each command. The statement O40 is assembled from
these rules. -/

namespace Sys2Proof.Machine

open Safety

variable {s x y : State} {c : CalibrationSet} {r : RawSample}

/-! ### Commands with reads between them -/

/-- A block with the registers of `s` ends with the registers of `x` when the host presents the commands `cmds`, with any
reads before, between and after them. -/
def Reaches (s : State) (cmds : List HostAction) (x : State) : Prop :=
  ∀ (acts rest : List HostAction) (u : State), SameRegisters s u → (∀ a ∈ acts, NoReset a) → commandsOf acts = cmds →
    u.pending = acts ++ rest → ∃ t, RunsTo acts.length u t ∧ SameRegisters x t ∧ t.pending = rest

theorem nopOrRead_of_noReset {a : HostAction} (noReset : NoReset a) (not_command : ¬ isCommand a = true) : NopOrRead a := by
  cases a with
  | reset => exact noReset rfl
  | read => trivial
  | command => exact absurd rfl not_command

theorem Reaches.nil (s : State) : Reaches s [] s := by
  intro acts rest u same noReset no_commands pending
  have reads (a : HostAction) (mem : a ∈ acts) : NopOrRead a :=
    nopOrRead_of_noReset (noReset a mem) (List.filter_eq_nil_iff.1 no_commands a mem)
  obtain ⟨t, run, kept, pending_end⟩ := runsTo_nopOrRead_keeps_registers pending reads
  exact ⟨t, run, sameRegisters_trans same kept, pending_end⟩

theorem Reaches.append {cmds cmds' : List HostAction} (first : Reaches s cmds x) (second : Reaches x cmds' y) :
    Reaches s (cmds ++ cmds') y := by
  intro acts rest u same noReset commands pending
  obtain ⟨acts₁, acts₂, rfl, commands₁, commands₂⟩ := List.filter_eq_append_iff.1 commands
  obtain ⟨noReset₁, noReset₂⟩ := List.forall_mem_append.1 noReset
  rw [List.append_assoc] at pending
  obtain ⟨v, run₁, same_middle, pending_middle⟩ := first acts₁ (acts₂ ++ rest) u same noReset₁ commands₁ pending
  obtain ⟨t, run₂, result⟩ := second acts₂ rest v same_middle noReset₂ commands₂ pending_middle
  rw [List.length_append]
  exact ⟨t, runsTo_append run₁ run₂, result⟩

/-- A command leads where its step does from every state with the registers of `s`. -/
theorem Reaches.command {cmd : Byte} {p : Ports} {cmds : List HostAction}
    (others : Reaches x cmds y) (steps : ∀ (u : State) (rest : List HostAction), SameRegisters s u →
      Presents u cmd p rest → ∃ t, step u = .next t ∧ SameRegisters x t) : Reaches s (.command cmd p :: cmds) y := by
  intro acts rest u same noReset commands pending
  obtain ⟨reads, acts', rfl, not_commands, -, commands'⟩ := List.filter_eq_cons_iff.1 commands
  obtain ⟨noReset_reads, noReset_rest⟩ := List.forall_mem_append.1 noReset
  rw [List.append_assoc] at pending
  obtain ⟨v, run, kept, presents⟩ := runsTo_nopOrRead_keeps_registers pending
    fun a mem => nopOrRead_of_noReset (noReset_reads a mem) (not_commands a mem)
  obtain ⟨w, h, same_next⟩ := steps v (acts' ++ rest) (sameRegisters_trans same kept) presents
  have pending_next : w.pending = acts' ++ rest := by rw [step_pending h, presents]; rfl
  obtain ⟨t, run', result⟩ :=
    others acts' rest w same_next (List.forall_mem_cons.1 noReset_rest).2 commands' pending_next
  rw [List.length_append]
  exact ⟨t, runsTo_append run ((core_run_succ h).trans run'), result⟩

/-! ### The commands of a session -/

theorem step_loadCal {p : Ports} {rest : List HostAction} (running : s.fault = none) (no_cal : s.cal = none)
    (presents : Presents s 0x01 p rest) : step s = .next ((accepted s p rest).writeCal p.calIn) :=
  (step_eq_exec (i := .loadCal) running presents).trans (execLoadCal_empty (s := accepted s p rest) no_cal)

section
variable {p q : Ports} {cmds : List HostAction} {tf : Word} (running : s.fault = none)
include running

theorem Reaches.loadCal (no_cal : s.cal = none) (others : Reaches (s.writeCal p.calIn) cmds y) :
    Reaches s (.command 0x01 p :: cmds) y :=
  .command others fun _ _ same presents =>
    ⟨_, step_loadCal (same.fault.trans running) (same.cal.trans no_cal) presents,
      ⟨rfl, same.sample, same.tFine, same.tOut, same.pOut, same.hOut, same.fault⟩⟩

theorem Reaches.loadSample (others : Reaches (s.writeSample p.sampleIn) cmds y) :
    Reaches s (.command 0x02 p :: cmds) y :=
  .command others fun _ _ same presents =>
    ⟨_, step_loadSample (same.fault.trans running) presents,
      ⟨same.cal, rfl, rfl, rfl, rfl, rfl, same.fault⟩⟩

variable (cal : s.cal = some c) (sample : s.sample = some r)
include cal sample

theorem Reaches.compT (others : Reaches (s.writeTemperature (fineTempOf c r)) cmds y) :
    Reaches s (.command 0x03 q :: cmds) y :=
  .command others fun _ _ same presents =>
    ⟨_, step_compT (same.fault.trans running) (same.cal.trans cal) (same.sample.trans sample) presents,
      ⟨same.cal, same.sample, rfl, rfl, same.pOut, same.hOut, same.fault⟩⟩

theorem Reaches.compAll (others : Reaches (s.writeAll c r) cmds y) : Reaches s (.command 0x06 q :: cmds) y :=
  .command others fun _ _ same presents =>
    ⟨_, step_compAll (same.fault.trans running) (same.cal.trans cal) (same.sample.trans sample) presents,
      ⟨same.cal, same.sample, rfl, rfl, rfl, rfl, same.fault⟩⟩

variable (tFine : s.tFine = some tf)
include tFine

theorem Reaches.compP (others : Reaches (s.writePOut (compPOf c r tf)) cmds y) :
    Reaches s (.command 0x04 q :: cmds) y :=
  .command others fun _ _ same presents =>
    ⟨_, step_compP (same.fault.trans running) (same.cal.trans cal) (same.sample.trans sample)
        (same.tFine.trans tFine) presents,
      ⟨same.cal, same.sample, same.tFine, same.tOut, rfl, same.hOut, same.fault⟩⟩

theorem Reaches.compH (others : Reaches (s.writeHOut (compHOf c r tf)) cmds y) :
    Reaches s (.command 0x05 q :: cmds) y :=
  .command others fun _ _ same presents =>
    ⟨_, step_compH (same.fault.trans running) (same.cal.trans cal) (same.sample.trans sample)
        (same.tFine.trans tFine) presents,
      ⟨same.cal, same.sample, same.tFine, same.tOut, same.pOut, rfl, same.fault⟩⟩

end

/-- All three forms of a cycle leave the registers of LOAD_SAMPLE and COMP_ALL: the writes of COMP_P and COMP_H are to
different registers. -/
theorem reaches_readingCycle (form : ComputeForm) (p q : Ports) (running : s.fault = none) (cal : s.cal = some c) :
    Reaches s (readingCycle form p q) ((s.writeSample p.sampleIn).writeAll c p.sampleIn) := by
  refine .loadSample running ?_
  cases form with
  | pressureFirst => exact .compT running cal rfl (.compP running cal rfl rfl (.compH running cal rfl rfl (.nil _)))
  | humidityFirst => exact .compT running cal rfl (.compH running cal rfl rfl (.compP running cal rfl rfl (.nil _)))
  | whole => exact .compAll running cal rfl (.nil _)

/-- Any number of cycles leave a block that is ready for the next one. -/
theorem reaches_readingCycles (cycles : List (ComputeForm × Ports × Ports)) (running : s.fault = none)
    (cal : s.cal = some c) :
    ∃ x, Reaches s (cycles.flatMap fun y => readingCycle y.1 y.2.1 y.2.2) x ∧ x.fault = none ∧ x.cal = some c := by
  induction cycles generalizing s with
  | nil => exact ⟨s, .nil s, running, cal⟩
  | cons cycle cycles ih =>
    obtain ⟨form, p, q⟩ := cycle
    obtain ⟨x, others, ready⟩ := ih (s := (s.writeSample p.sampleIn).writeAll c p.sampleIn) running cal
    exact ⟨x, (reaches_readingCycle form p q running cal).append others, ready⟩

/-- A block that a session has left: it runs, and holds the calibration, the sample and the complete reading of the two. -/
structure HoldsReading (c : CalibrationSet) (r : RawSample) (t : State) : Prop where
  running : t.fault = none
  cal : t.cal = some c
  sample : t.sample = some r
  reading : readingOf t = completeReading c r

theorem HoldsReading.of_sameRegisters {t : State} (holds : HoldsReading c r s) (same : SameRegisters s t) :
    HoldsReading c r t where
  running := same.fault.trans holds.running
  cal := same.cal.trans holds.cal
  sample := same.sample.trans holds.sample
  reading := by rw [← holds.reading, readingOf, readingOf, same.tFine, same.tOut, same.pOut, same.hOut]

theorem reaches_session (cycles : List (ComputeForm × Ports × Ports)) (form : ComputeForm) (p0 p q : Ports)
    (running : s.fault = none) (no_cal : s.cal = none) :
    ∃ x, Reaches s (sessionCommands p0 cycles form p q) x ∧ HoldsReading p0.calIn p.sampleIn x := by
  obtain ⟨x, first_cycles, running_last, cal_last⟩ :=
    reaches_readingCycles (s := s.writeCal p0.calIn) cycles running rfl
  have last_cycle := reaches_readingCycle form p q running_last cal_last
  exact ⟨_, .loadCal running no_cal (first_cycles.append last_cycle), running_last, cal_last, rfl, readingOf_writeAll _ _ _⟩

/-! ### The run -/

/-- From any state: the reset and then a session end in a block that holds the last reading, with what the host presents
afterwards still to come. -/
theorem runsTo_session {acts : List HostAction} {cycles : List (ComputeForm × Ports × Ports)} {form : ComputeForm}
    {p0 p q : Ports} (s : State) (rest : List HostAction) (noReset : ∀ a ∈ acts, NoReset a)
    (session : commandsOf acts = sessionCommands p0 cycles form p q) :
    ∃ t, RunsTo (acts.length + 1) { s with pending := .reset :: (acts ++ rest) } t ∧ HoldsReading p0.calIn p.sampleIn t ∧
      t.pending = rest := by
  have reset := step_reset (s := { s with pending := .reset :: (acts ++ rest) }) rfl
  obtain ⟨x, reaches, holds⟩ := reaches_session (s := (s.withPending (acts ++ rest)).acceptReset) cycles form p0 p q rfl rfl
  obtain ⟨t, run, same, pending⟩ := reaches acts rest _ (sameRegisters_refl _) noReset session rfl
  exact ⟨t, (core_run_succ reset).trans run, holds.of_sameRegisters same, pending⟩

/-- Step 4(d) of R231: the three output registers hold values, so the reads return these. -/
theorem runsTo_outputReads (holds : HoldsReading c r s) (pending : s.pending = outputReads) :
    ∃ t, RunsTo 3 s t ∧ t.fault = none ∧ t.received.take 3 =
      [compHOf c r (fineTempOf c r), compPOf c r (fineTempOf c r), compT (fineTempOf c r)] := by
  obtain ⟨-, tOut, pOut, hOut⟩ := Reading.mk.inj holds.reading
  have words : [s.readPort 0b100, s.readPort 0b011, s.readPort 0b010] =
      [compHOf c r (fineTempOf c r), compPOf c r (fineTempOf c r), compT (fineTempOf c r)] := by
    rw [readPort_hOut, bitsOrFree_valid hOut, readPort_pOut, bitsOrFree_valid pOut, readPort_tOut, bitsOrFree_valid tOut]
  exact ⟨_, runsTo_reads [0b010, 0b011, 0b100] [] s pending, holds.running, words⟩

/-- Settles O40: the session's run with nothing after it, and with the three reads after it. -/
theorem requiredSessionOrderGivesTheReading : Obligations.RequiredSessionOrderGivesTheReading := by
  intro s acts p0 cycles form p q noReset session
  refine ⟨?reading, ?reads⟩
  case reading =>
    obtain ⟨t, run, holds, -⟩ := runsTo_session s [] noReset session
    rw [List.append_nil] at run
    exact ⟨t, ⟨noReset, run⟩, (not_halted_iff t).2 holds.running, holds.cal, holds.sample, holds.reading⟩
  case reads =>
    obtain ⟨t, run, holds, pending⟩ := runsTo_session s outputReads noReset session
    obtain ⟨u, run_reads, running, words⟩ := runsTo_outputReads holds pending
    have noReset_reads : ∀ a ∈ outputReads, NoReset a := by simp [outputReads, NoReset]
    have run_all := runsTo_append run run_reads
    rw [Nat.add_right_comm] at run_all
    refine ⟨u, ⟨List.forall_mem_append.2 ⟨noReset, noReset_reads⟩, ?_⟩, (not_halted_iff u).2 running, words⟩
    rw [List.length_append]
    exact run_all

end Sys2Proof.Machine
end
